-- ==== Sys2Proof/Word.lean ====
section
/-! DEFINITION. The word types of the model. -/

namespace Sys2Proof

/-- One byte (00_scope R5: memory is little-endian in bytes). -/
abbrev Byte := BitVec 8

/-- One register word (00_scope R7: registers are 32 bits wide). -/
abbrev Word := BitVec 32

/-- A 64-bit value: gauge values, queue entries, witnesses. -/
abbrev DWord := BitVec 64

end Sys2Proof
end

