-- ==== Sys2Proof/Syntax.lean ====
section
/-! DEFINITION. The commands of the block (spec/opcode_table.json) and the data they carry. -/
namespace Sys2Proof
/-- The three streams of a bench (R138). -/
inductive Stream where
  | f | b | u
  deriving DecidableEq, Repr

/-- The fields of an instruction word (Table 7-1). -/
structure IWord where
  opc  : BitVec 8 := 0
  str  : BitVec 2 := 0
  nb   : BitVec 14 := 0
  cq   : BitVec 8 := 0
  g    : Bool := false
  ce   : Bool := false
  ix   : Bool := false
  bc   : BitVec 3 := 0
  mod  : BitVec 10 := 0
  aux  : BitVec 16 := 0
  d    : BitVec 16 := 0
  imm  : BitVec 16 := 0
  opid : BitVec 32 := 0
  deriving DecidableEq, Repr
/-- An item whose budget expired (Table 6-4): of a ticket, or an instruction block. -/
inductive LateItem where
  | ticket (b n : Nat)
  | block (b : Nat) (t : Stream) (blk : Nat)
  deriving DecidableEq, Repr

/-- A cabinet write of `v` to offset `off` of a page that reaches a domain in the same Plumb cycle as an action of Plumb on that
domain (R18). -/
structure CmdHit where
  page : Nat
  off  : Nat
  v    : Nat
  deriving DecidableEq, Repr

/-- Flit types (Table 11-6); `other` is a reserved one. -/
inductive FlitType where
  | op | data | resp | fack | credit | seal | echoReq | echoRep | error | other
  deriving DecidableEq, Repr

/-- A flit (Table 11-5): its header fields and its payload. -/
structure Flit where
  typ   : FlitType
  mc    : Bool := false
  last  : Bool := false
  flow  : Nat := 0
  dst   : Nat := 0
  epoch : Nat := 0
  step  : Nat := 0
  seq   : Nat := 0
  sg    : Nat := 0
  pay   : List Byte := []
  deriving DecidableEq, Repr

/-- KIND of a preamble (Table 11-4). -/
inductive SlotKind where
  | idle | data | withdrawn | train
  deriving DecidableEq, Repr

/-- How the cabinet reaches memory (R372): past its L2, through it, by cbo.inval, or to unlock the loader's lines (R402). -/
inductive CabKind where
  | uncached | cached | inval | unlock
  deriving DecidableEq, Repr

/-- One echo exchange as the spline measures it (R251, Table 11-7): t_tx and t_rx in 0.1 ns, and of the reply h, the
switch's short gauge, the schedule identity, the switch identity and its port. -/
structure EchoMeas where
  ttx   : Nat
  trx   : Nat
  h     : Nat
  sg    : Nat
  sched : Nat
  swId  : Nat
  port  : Nat
  deriving DecidableEq, Repr

/-- A signed image (Table 16-3): its class, whether an owner key signed it, the key slot, its security version, its version,
and its image digest. -/
structure ImgInfo where
  cls     : Nat
  owner   : Bool
  key     : Nat
  svn     : Nat
  version : Nat
  digest  : List Byte
  deriving DecidableEq, Repr

/-- What the security block finds as it verifies an image (R399): whether its source had an uncorrectable word, whether the
format of its header holds and allows the part, its payload length, whether it lies within its source, whether its key hash
equals the fused one, whether its two signatures are valid, and the image. -/
structure ImgFacts where
  ue     : Bool
  format : Bool
  len    : Nat
  fits   : Bool
  hash   : Bool
  ed     : Bool
  ml     : Bool
  info   : ImgInfo
  deriving DecidableEq, Repr

/-- The verdicts of the security block's cryptography on an image or a token in memory (R399, R414): whether its key hash equals
the fused one, whether its two signatures are valid, and its digest. -/
structure Verdict where
  hash   : Bool
  ed     : Bool
  ml     : Bool
  digest : List Byte
  deriving DecidableEq, Repr

/-- An image that the directory names: its set (0 A, 1 B), its flash offset, and what its verification finds. -/
structure FlashImg where
  set   : Nat
  off   : Nat
  facts : ImgFacts
  deriving DecidableEq, Repr

/-- A copy of the flash directory (R395): whether its magic and CRC hold, its sequence, and its preference word. -/
structure DirCopy where
  ok   : Bool
  seq  : Nat
  pref : Nat
  deriving DecidableEq, Repr

/-- What a boot finds (R396 to R404): the two copies of the directory as first read, and as read again in single SPI mode, the
images that the chosen copy names, the stacks that fail to train, and whether a regulator reports a PMBus revision below
1.3. -/
structure BootRes where
  dir       : DirCopy × DirCopy
  dirSpi    : DirCopy × DirCopy
  imgs      : List FlashImg
  stackFail : List Nat
  pmbOld    : Bool
  deriving DecidableEq, Repr

/-- A frame on the management port (R390): its addresses, its EtherType, its payload, and whether its CRC holds. -/
structure Frame where
  dst   : Nat
  src   : Nat
  etype : Nat
  pay   : List Byte
  crcOk : Bool
  deriving DecidableEq, Repr

/-- A rail at a telemetry mark (Table 15-10, R427, R428): its last voltage in mV, current in 0.1 A and power in 0.1 W; the failed
attempts of the mark's request, whether it went over AVSBus, and its command code; and STATUS_WORD. -/
structure RailSample where
  mv     : Nat
  ia     : Nat
  pw     : Nat
  fails  : Nat
  avs    : Bool
  cmd    : Nat
  status : BitVec 16
  deriving DecidableEq, Repr

/-- What is sampled at a telemetry mark (R389): the gauge of the mark, the 64 sensors and the 8 base dies in °C, the nine rails,
and the mean package power in mW. -/
structure TelSample where
  g      : Nat
  temps  : List Int
  dies   : List Int
  rails  : List RailSample
  mw     : Nat
  deriving DecidableEq, Repr

/-- The commands of the block, one constructor for each row of the opcode table. `b` is a physical bench, `t` a stream, `w` an
instruction word, `x` or `spl` a spline, `j` a stack or its JMC, `c` a flow context, `n` a ticket, and `d` a domain code. An
operand that is not a field of a register or of a message is what the environment does: which benches fail a test, whether a
signature is valid, how long something lasted. -/
inductive Instr where
  /-- NOP (R168). Bench instruction that does nothing and completes at issue. -/
  | nop (b : Nat) (t : Stream) (w : IWord)
  /-- LOOP (R175). Pushes a loop of body length L and a count onto the stream's loop stack, or skips the body when the count
  is 0. -/
  | loop (b : Nat) (t : Stream) (w : IWord)
  /-- ENDL (R175). Decrements the top loop count and jumps back to the loop start, or pops the loop stack. -/
  | endl (b : Nat) (t : Stream) (w : IWord)
  /-- WAITG (R140). The stream waits until the gauge reaches a 64-bit value, with QB added when IX is 1. -/
  | waitg (b : Nat) (t : Stream) (w : IWord)
  /-- WAITG_RELEASE (R241). The gauge value becomes visible and every stream waiting in WAITG for it releases in the same
  cycle. -/
  | waitgRelease (g : DWord)
  /-- HOLDPT (R155). Completes at once unless the freeze is armed for its identifier, in which case the stream enters HELD.
  -/
  | holdpt (b : Nat) (t : Stream) (w : IWord)
  /-- TRAP (R175). Raises the USER execution trap with its op ID. -/
  | trapI (b : Nat) (t : Stream) (w : IWord)
  /-- SEAL (R141). Puts the stream in DONE once every earlier instruction of the stream has completed. -/
  | seal (b : Nat) (t : Stream) (w : IWord)
  /-- CLSET (R145). Sets a local or global clamp to a 16-bit value. -/
  | clset (b : Nat) (t : Stream) (w : IWord)
  /-- CLADD (R145). Adds a 16-bit value to a local or global clamp. -/
  | cladd (b : Nat) (t : Stream) (w : IWord)
  /-- CLWAIT (R144). The stream waits until a clamp reaches a threshold, and subtracts the threshold when REL is 1. -/
  | clwait (b : Nat) (t : Stream) (w : IWord)
  /-- CLAMP_UPDATE (R145). The sets and adds of a cycle reach a clamp; the clamp saturates and traps on overflow, and
  satisfies waiting streams in F, B, U order. -/
  | clampUpdate (glob : Bool) (b : Nat) (n : Nat) (k : Nat)
  /-- QPUSH (R147). Appends a 64-bit immediate to a queue of this bench or of another logical bench; stalls while the queue
  is full. -/
  | qpush (b : Nat) (t : Stream) (w : IWord)
  /-- QUEUE_ENTRY_ARRIVE (R147). An entry pushed by another bench arrives over the clamp network 8 cycles after the push. -/
  | queueEntryArrive (b : Nat)
  /-- QPOP (R147). Removes the head entry of a queue into QB; stalls while the queue is empty. -/
  | qpop (b : Nat) (t : Stream) (w : IWord)
  /-- TILE (R176). Multiplies an A and a B operand tile over depth K into one accumulator of every cell, with the try
  products. -/
  | tile (b : Nat) (t : Stream) (w : IWord)
  /-- TCLR (R89). Sends a clear token through the stagger that zeroes the acc, res, n and stickies of an accumulator. -/
  | tclr (b : Nat) (t : Stream) (w : IWord)
  /-- TDRAIN (R90). Drains an accumulator row by row through the outfeed into one queue entry, converting each element. -/
  | tdrain (b : Nat) (t : Stream) (w : IWord)
  /-- DRAIN_START (R91). A drain that waited for a free outfeed entry begins reading row 0. -/
  | drainStart (b : Nat)
  /-- OUTFEED_ENTRY_VISIBLE (R93). An outfeed entry becomes visible to the plane 5 cycles after the last row is read,
  completing the TDRAIN. -/
  | outfeedEntryVisible (b : Nat)
  /-- TTAP (R94). Streams an accumulator column by column to the plane in RAW, FX64 or FP32 mode, with the try checks. -/
  | ttap (b : Nat) (t : Stream) (w : IWord)
  /-- HADA (R95). Uses the array for element-wise products (PROD) or per-row dot products (DOT) with a duplicate check. -/
  | hada (b : Nat) (t : Stream) (w : IWord)
  /-- VOP (R111). Plane element-wise operation selected by FN, rounded once into the output format. -/
  | vop (b : Nat) (t : Stream) (w : IWord)
  /-- VFMA (R111). Plane fused multiply-add a × b + c with a single rounding. -/
  | vfma (b : Nat) (t : Stream) (w : IWord)
  /-- VRED (R182). Reduces groups of g elements to one output each, order-free or by the canonical tree. -/
  | vred (b : Nat) (t : Stream) (w : IWord)
  /-- VSCAN (R183). Forms inclusive or exclusive prefix scans along groups, with optional carry in and root out. -/
  | vscan (b : Nat) (t : Stream) (w : IWord)
  /-- VASCAN (R117). Forms the affine scan y(t) = a(t) × y(t−1) + b(t) by the canonical tree. -/
  | vascan (b : Nat) (t : Stream) (w : IWord)
  /-- VCVT (R109). Converts a stream between formats, including the assembly of a RAW tap stream. -/
  | vcvt (b : Nat) (t : Stream) (w : IWord)
  /-- VTRF (R122). Evaluates a transcendental function lane by lane with the integer kernels. -/
  | vtrf (b : Nat) (t : Stream) (w : IWord)
  /-- VGRAIN (R127). Writes grain draws in the BITS, UNIF, UNIF_OPEN, BERN or GUMBEL form, or loads a grain key. -/
  | vgrain (b : Nat) (t : Stream) (w : IWord)
  /-- VVEN (R129). Packs a stream into MX or BF16 veneer. -/
  | vven (b : Nat) (t : Stream) (w : IWord)
  /-- VUNV (R131). Unpacks MX veneer into FP32, BF16 or FP16. -/
  | vunv (b : Nat) (t : Stream) (w : IWord)
  /-- WITNESS (R184). Computes the witness of a stream and sends a kind 2 record to the seal unit. -/
  | witness (b : Nat) (t : Stream) (w : IWord)
  /-- DMAL (R185). Loads rows from local memory into the tray. -/
  | dmal (b : Nat) (t : Stream) (w : IWord)
  /-- DMAS (R185). Stores rows from the tray to local memory, adding to the committed witness sum when U writes a new view.
  -/
  | dmas (b : Nat) (t : Stream) (w : IWord)
  /-- DMAX (R185). Copies rows from a peer bench's tray into this bench's tray. -/
  | dmax (b : Nat) (t : Stream) (w : IWord)
  /-- RSEND (R185). Sends rows to remote memory through a flow context as a WRITE operation. -/
  | rsend (b : Nat) (t : Stream) (w : IWord)
  /-- RREAD (R185). Reads rows of remote memory through a flow context into the tray. -/
  | rread (b : Nat) (t : Stream) (w : IWord)
  /-- GLUE (R185). Adds FX rows exactly into remote memory at the owner's memory controller. -/
  | glue (b : Nat) (t : Stream) (w : IWord)
  /-- RCLAMP (R186). Adds a value to a remote bench's local clamp or a remote global clamp through a flow. -/
  | rclamp (b : Nat) (t : Stream) (w : IWord)
  /-- SHADOW (R189). Marks the next plane instruction of the stream as the primary or the copy of a shadowed pair. -/
  | shadow (b : Nat) (t : Stream) (w : IWord)
  /-- CHKCMP (R190). Takes a ticket and waits for both witnesses of a shadow tag. -/
  | chkcmp (b : Nat) (t : Stream) (w : IWord)
  /-- SHADOW_COMPARE (R132). Once both witnesses of the tag are present, they are compared; a difference raises SHADOW_MM and
  voids the token. -/
  | shadowCompare (b : Nat) (tag : Nat)
  /-- TICKET_COMPLETE (R226). A ticket completes when all its granule operations are acknowledged, with a status; a non-OK
  status raises DMA_ERR. -/
  | ticketComplete (b : Nat) (n : Nat) (par : List (Nat × Nat))
  /-- DMA_LAST_BYTE (R153). The last byte of a DMAL, DMAX or RREAD range is written into the tray and its scoreboard entry
  clears. -/
  | dmaLastByte (b : Nat) (n : Nat) (par : List (Nat × Nat))
  /-- PREFETCH_BLOCK_ARRIVE (R137). A prefetched block of 64 instructions is written into the instruction store window. -/
  | prefetchBlockArrive (b : Nat) (t : Stream) (blk : Nat) (par : List Nat)
  /-- LOCKSTEP_MISMATCH (R136). The two sequencers of a bench diverge; the bench stops issuing, enters FENCED and voids the
  token. -/
  | lockstepMismatch (b : Nat) (cyc : Nat)
  /-- HOLD_DETECT (R149). A budget counter reaches 0 with its item absent; the bench raises hold and every bench freezes 4
  cycles later. -/
  | holdDetect (cls : Nat) (it : LateItem)
  /-- HOLD_RELEASE (R149). Every late item has arrived; release is broadcast and the ballast ramps back up. -/
  | holdRelease
  /-- HOLD_RESUME (R149). All benches resume work in the same cycle at R + d. -/
  | holdResume (cyc : Nat)
  /-- HOLD_TIMEOUT (R158). HOLD_TO expires; the hold is released and the late tickets are abandoned. -/
  | holdTimeout (begun : List (Nat × Nat × List Nat))
  /-- UNIT_TIMEOUT (R157). A queue, scoreboard, outfeed, tap, grant or ticket wait exceeds SEQ_UNIT_TO; the stream enters
  FAULT. -/
  | unitTimeout (b : Nat) (t : Stream)
  /-- CLAMP_TIMEOUT (R157). A CLWAIT exceeds its clamp class timeout; the stream enters FAULT with CLAMP_TO. -/
  | clampTimeout (b : Nat) (t : Stream)
  /-- FREEZE_ARM (R155). Writing ARM in HOLD_FREEZE_CTL arms the freeze for a HOLDPT identifier. -/
  | freezeArm (id : BitVec 16)
  /-- FREEZE_DUMP (R155). At quiescence after every stream is HELD or DONE, the dump engine writes the freeze image. -/
  | freezeDump
  /-- FREEZE_ABANDON (R155). Quiescence is not reached within 10 ms of arming; HELD streams return to RUN and FAIL is set. -/
  | freezeAbandon
  /-- FREEZE_RESUME_CONTINUE (R156). RESUME with MODE CONTINUE resumes HELD streams at HOLD_RESUME_MARK. -/
  | freezeResumeContinue
  /-- FREEZE_RESUME_LOAD (R156). RESUME with MODE LOAD checks and loads a freeze image into STOPPED benches and resumes at
  HOLD_RESUME_MARK. -/
  | freezeResumeLoad
  /-- STREAM_START (R205). A START bit of SEQ_STREAM_CTL arms the stream, sets QB to the start mark and begins the preload
  and prefetch. -/
  | streamStart (b : Nat) (mask : BitVec 3) (parT : Bool) (parP : List Nat)
  /-- STREAM_STOP (R455). A STOP bit of SEQ_STREAM_CTL returns the stream to STOPPED. -/
  | streamStop (b : Nat) (mask : BitVec 3)
  /-- STREAM_RUN (R205). Once the preload is complete and the first window block has arrived, an ARMED stream enters RUN. -/
  | streamRun (b : Nat) (t : Stream)
  /-- TRY_INJECT (R103). A write that sets ARM in BENCH_TRY_INJ arms a one-bit flip at the next product of a named cell. -/
  | tryInject (b : Nat) (v : Word)
  /-- TABLE_CHECK (R124). PLANE_TTAB_CTL.START starts the CRC check of the transcendental tables. -/
  | tableCheck (b : Nat)
  /-- TABLE_CHECK_DONE (R124). The table check ends after 4,096 cycles and sets DONE, or FAIL with EV-0x522. -/
  | tableCheckDone (b : Nat) (ok : Bool)
  /-- OPEN (R322). SEAL_STEP_CTL command OPEN opens step SEAL_STEP_NEXT and clears the per-step state. -/
  | stepOpen
  /-- STEP_RUN (R323). The step enters RUN at the start mark or resume mark; a bench stream still STOPPED enters FAULT. -/
  | stepRun
  /-- STEP_CLOSE (R325). Every stream is DONE or FAULT and every ticket complete; the step enters CLOSE and forms its own
  token. -/
  | stepClose
  /-- SEAL_TOKEN_RECEIVE (R311). A child's seal token arrives and is combined with the member's own token. -/
  | sealTokenReceive (spl : Nat)
  /-- SEAL_CHILD_TIMEOUT (R311). SEAL_TO passes after CLOSE with a child token missing; the token is finished void with cause
  bit 10. -/
  | sealChildTimeout
  /-- SEAL_DECISION_RECEIVE (R313). A decision arrives from the parent; it is recorded, forwarded to the children and applied
  as COMMITTED or VOID. -/
  | sealDecisionReceive (spl : Nat)
  /-- SEALED_TIMEOUT (R314). SEAL_TO passes after entering SEALED without a decision; EV-0x323 is written and nothing else
  changes. -/
  | sealedTimeout
  /-- RESOLVE_VOID (R330). SEAL_STEP_CTL command that applies a VOID decision to a SEALED member. -/
  | resolveVoid
  /-- RESOLVE_COMMIT (R330). SEAL_STEP_CTL command that applies a commit decision to a SEALED member. -/
  | resolveCommit
  /-- STEP_DEADLINE (R250). The gauge reaches GAU_DL while the step is OPEN or RUN; a deadline miss is recorded. -/
  | stepDeadline
  /-- SLOT_TRANSMIT (R275). At each slot boundary minus the advance, a spline sends a slot whose content the transmit gate
  checks. -/
  | slotTransmit (x : Nat) (g : Nat) (fault : Bool)
  /-- SLOT_RECEIVE (R278). A received slot is accepted or rejected on its CRCs and GCM tag, and is acknowledged in a later
  slot. -/
  | slotReceive (x : Nat) (g : Nat) (delay : Nat := 0) (lanes : List (List Nat) := [])
  /-- ACK_TIMEOUT (R279). No report arrives within 32 slots of a slot's boundary; the slot counts as NACKed. -/
  | ackTimeout (x : Nat) (g : Nat)
  /-- OP_RECEIVE (R295). A received OP flit passes the flow checks and its WRITE, READ, GLUE or CLAMP operation is started.
  -/
  | opReceive (spl : Nat) (gone : Nat)
  /-- DATA_RECEIVE (R294). A received DATA flit of a WRITE or GLUE is checked, captured and its rows written or glued. -/
  | dataReceive (spl : Nat) (gone : Nat)
  /-- RESP_RECEIVE (R296). A RESP flit of a read response is written into the requester's tray. -/
  | respReceive (spl : Nat) (par : List (Nat × Nat) := [])
  /-- FACK_RECEIVE (R297). A FACK flit returns credits by CUM_SEQ and completes the named tickets with their status. -/
  | fackReceive (spl : Nat)
  /-- CREDIT_RECEIVE (R297). A CREDIT flit returns credits by CUM_SEQ and restarts the flow timer. -/
  | creditReceive (spl : Nat)
  /-- ERROR_RECEIVE (R316). An ERROR flit puts its context in PEER_FENCED and completes its tickets with REMOTE. -/
  | errorReceive (spl : Nat)
  /-- ECHO_REQ_RECEIVE (R285). In back-to-back mode a received echo request is answered as a switch would. -/
  | echoReqReceive (x : Nat)
  /-- GLUE_UP (R233). A glue unit arrives at the JMC, which reads, adds exactly, and writes it, and updates the block
  exponent entry. -/
  | glueUp (fmt : Nat) (a : Nat) (bs : List Byte) (ea : Nat) (ein : Int)
  /-- FLOW_TIMEOUT (R303). A flow context's timer reaches 0; the context enters TIMED_OUT and its tickets complete with
  TIMEOUT. -/
  | flowTimeout (c : Nat)
  /-- FLOW_CONTEXT_WRITE (R463). A write of a flow context word, checked by its own rules; setting VALID stamps the epoch and
  resets the sequences. -/
  | flowContextWrite (c : Nat) (k : Nat) (v : Word)
  /-- EPOCH_CHANGE (R289). Command that moves both link dies to LKD_EPOCH_NEXT and the pending member ID, and resets every
  valid context. -/
  | epochChange (tag : BitVec 16)
  /-- ECHO_EXCHANGE (R252). In the first fence slot after a telemetry mark, a spline sends an echo request and records its
  time. -/
  | echoExchange (x : Nat) (g : Nat) (ttx : Nat)
  /-- ECHO_REPLY (R253). An echo reply arrives; the delay is computed and judged against the advance. -/
  | echoReply (x : Nat) (m : EchoMeas)
  /-- ECHO_NO_REPLY (R251). No echo reply arrives within 4 µs of the request; it counts as an excursion. -/
  | echoNoReply (x : Nat)
  /-- TRAIN (R265). SPL_CTL.TRAIN starts electrical training, FEC lock and the eight echo exchanges of a spline. -/
  | train (x : Nat)
  /-- TRAIN_COMPLETE (R265). Training ends; the spline enters UP at the next frame boundary if the schedule identity matches,
  else FAULT. -/
  | trainComplete (x : Nat) (t : Nat) (peerB2b : Bool)
  /-- TRAIN_TIMEOUT (R265). Training does not finish in 1.5 s; the spline enters FAULT with cause TRAIN_TO. -/
  | trainTimeout (x : Nat)
  /-- MUTE (R277). SPL_CTL.MUTE places an UP spline in MUTED at the next slot boundary. -/
  | mute (x : Nat)
  /-- LANE_JUDGE (R267). At each telemetry mark every lane is judged, and a degraded traffic lane starts a swap to the spare.
  -/
  | laneJudge (x : Nat) (ls : List (Nat × Nat × Bool))
  /-- LANE_SWAP_COMPLETE (R267). The spare lane is locked and deskewed; the lane map is updated and EV-0x303 written. -/
  | laneSwapComplete (x : Nat)
  /-- KNOCK_RECOGNISED (R284). The wake detector recognises 16 repetitions of the knock and wakes the chip. -/
  | knockRecognised (x : Nat)
  /-- LOAD (R273). CUT_CTL.LOAD reads and checks a cutting list image into the pending list. -/
  | load (x : Nat)
  /-- ARM (R274). CUT_CTL.ARM schedules the pending list to become active at CUT_MARK. -/
  | arm (x : Nat)
  /-- DISARM (R464). CUT_CTL.DISARM cancels a pending activation. -/
  | disarm (x : Nat)
  /-- CUTLIST_ACTIVATE (R274). At the mark the pending list becomes active, the retry buffer is discarded and a step in
  progress is voided. -/
  | cutlistActivate (x : Nat)
  /-- KEY_ARM (R283). SPL_KEY_CTL.ARM schedules a new key pair to take effect at SPL_KEY_MARK. -/
  | keyArm (x : Nat)
  /-- KEY_CHANGE (R283). At the key mark the new transmit and receive keys take effect. -/
  | keyChange (x : Nat)
  /-- GAUGE_LOAD_ARM (R243). A write of GAU_LOAD_HI arms a load of the gauge at a later GMARK. -/
  | gaugeLoadArm (v : Word)
  /-- GMARK_EDGE (R244). A GMARK rising edge applies a pending load or is measured and trims the gauge phase. -/
  | gmarkEdge (t : Nat)
  /-- GMARK_MISSING (R244). The window of an expected GMARK edge closes without one; four in a row cause DOUBT. -/
  | gmarkMissing
  /-- GAUGE_ARM_TIMEOUT (R242). No usable GMARK arrives within 2^25 gt of arming; the gauge returns to FREE. -/
  | gaugeArmTimeout
  /-- GREF_LOSS (R257). GREF loss is detected and the gauge enters HOLDOVER. -/
  | grefLoss
  /-- GREF_RETURN (R257). GREF returns; the gauge relocks within phase or enters DOUBT. -/
  | grefReturn (inPhase : Bool)
  /-- HOLDOVER_LIMIT (R257). Holdover reaches 1 ms from detection and the gauge enters DOUBT. -/
  | holdoverLimit
  /-- PLL_LOCK_LOSS (R257). The gauge PLL loses lock and the gauge enters DOUBT. -/
  | pllLockLoss
  /-- GAUGE_MONITOR_FAULT (R257). The gauge copies disagree or Plumb measures a frame out of tolerance; the gauge enters
  DOUBT. -/
  | gaugeMonitorFault
  /-- TELEMETRY_SAMPLE (R389). At each selected telemetry mark TELEM samples and writes a 1 KiB record to its ring. -/
  | telemetrySample (q : TelSample)
  /-- XREF_BEGIN (R221). After a hot base-die reading, extra refresh windows begin at the next 3,900 gt boundary. -/
  | xrefBegin (j : Nat)
  /-- XREF_END (R221). After a reading of 82 °C or below, extra refresh windows end at the next 3,900 gt boundary. -/
  | xrefEnd (j : Nat)
  /-- SCRUB_READ (R222). In every 2^LOG2_DIV-th planned window a 64 B burst is read for scrub and written back if corrected.
  -/
  | scrubRead (gc : Nat) (a : Nat) (t : Nat) (res : Nat) (row : Bool)
  /-- JMC_ACCESS (R211). A JMC accepts a read or write request and serves it with fixed latency, outside refresh windows. -/
  | jmcAccess (a : Nat) (t : Nat) (dur : Nat) (lock : Nat) (ce : Nat) (row : Bool) (tce : List (Nat × Nat) := [])
    (copied : Nat := 0) (par : List Nat := [])
  /-- CABINET_MEM_ACCESS (R212). A cabinet load or store to local memory, judged under the guarded-region rules. -/
  | cabinetMemAccess (a : Nat) (n : Nat) (data : Option (List Byte)) (kind : CabKind := .uncached)
  /-- TICKET_TIMEOUT (R227). A local ticket exceeds JMC_TKT_TO; its unbegun operations are discarded and it completes with
  TIMEOUT. -/
  | ticketTimeout (b : Nat) (n : Nat) (begun : List Nat)
  /-- GUARD_REGION_WRITE (R231). A write of JMC_GRn_CTL, applied to all eight mirrored commit tables under the region rules.
  -/
  | guardRegionWrite (j : Nat) (n : Nat) (v : Word)
  /-- STACK_RETRAIN (R223). Command that retrains one stack's interface, scans its JMC and applies queued repairs. -/
  | stackRetrain (tag : BitVec 16)
  /-- RETRAIN_COMPLETE (R223). The retrain ends; the stack returns to SERVING or enters OFFLINE. -/
  | retrainComplete (ok : Bool)
  /-- STACK_RETIRE (R224). Command that withdraws the relief eighth and starts copying a retired stack's granules to relief.
  -/
  | stackRetire (tag : BitVec 16)
  /-- RELOCATION_COMPLETE (R225). The relocation copy ends and the stack becomes RETIRED. -/
  | relocationComplete (found : List Nat)
  /-- COMPUTE_RESET (R356). Command that fences and resets the compute domain, with the boot self-test of every bench. -/
  | computeReset (tag : BitVec 16)
  /-- BENCH_RESET (R356). Command that resets one physical bench. -/
  | benchReset (tag : BitVec 16)
  /-- DOMAIN_RESET (R354). Command that resets the chip or a link die domain. -/
  | domainReset (tag : BitVec 16)
  /-- FENCE_DRAIN_TIMEOUT (R355). Outstanding requests of a fenced domain are not drained within 1 ms and complete with
  TIMEOUT. -/
  | fenceDrainTimeout (d : Nat) (begun : List (Nat × Nat × List Nat))
  /-- RESET_START (R355). When the fence drain ends, the domain reset starts and EV-0x503 is written. -/
  | resetStart (d : Nat)
  /-- RESET_COMPLETE (R355). A domain reset completes and EV-0x504 is written. -/
  | resetComplete (d : Nat) (us : Nat) (fails : List Nat) (b : BootRes)
  /-- RESET_ESCALATION (R357). A reset does not complete within its bound; the larger domain is reset and Plumb drives rest.
  -/
  | resetEscalation (d : Nat) (hit : Option CmdHit := none)
  /-- BENCH_SWAP (R362). Command that holds the chip and starts moving a logical bench to a spare physical bench. -/
  | benchSwap (tag : BitVec 16)
  /-- SWAP_COPY (R362). After quiescence, the bench state is copied, the map is changed in one cycle and the hold released.
  -/
  | swapCopy
  /-- SWAP_ABANDON (R363). Quiescence fails within HOLD_TO or the copy finds an error; the swap is abandoned. -/
  | swapAbandon (ue : Bool)
  /-- TEST_BENCH (R364). Command that starts a structural test of a bench in TEST. -/
  | testBench (tag : BitVec 16)
  /-- TEST_COMPLETE (R364). The structural test ends; the bench enters SPARE or OFFLINE. -/
  | testComplete (fails : Nat) (unit : Nat) (digestBad : Bool)
  /-- FW_ACTIVATE (R392). Command that fences a block controller and restarts it from the named slot. -/
  | fwActivate (tag : BitVec 16)
  /-- FW_FIRST_HEARTBEAT (R392). The restarted controller's first heartbeat arrives; the fence is released and FW_SLOT.RUN
  set. -/
  | fwFirstHeartbeat (d : Nat)
  /-- FW_ACTIVATE_TIMEOUT (R393). No first heartbeat within PLUMB_DOM_TO; the controller is restarted from its previous slot.
  -/
  | fwActivateTimeout (d : Nat) (hit : Option CmdHit := none)
  /-- REST (R350). Command that makes Plumb drive the chip into the rest state. -/
  | rest (tag : BitVec 16)
  /-- REST_EXIT (R353). Command that performs a compute reset and returns the chip from REST to READY or TEST. -/
  | restExit (tag : BitVec 16) (us : Nat) (fails : List Nat)
  /-- POWER_STATE_ACTIVE (R430). POWER_STATE command selecting ACTIVE. -/
  | powerStateActive (tag : BitVec 16)
  /-- POWER_STATE_IDLE (R430). POWER_STATE command selecting IDLE, which gates bench clocks. -/
  | powerStateIdle (tag : BitVec 16)
  /-- POWER_STATE_NAP (R431). POWER_STATE command that enters NAP. -/
  | powerStateNap (tag : BitVec 16)
  /-- POWER_STATE_DEEP (R433). POWER_STATE command that zeroises keys and switches off every rail but the always-on group. -/
  | powerStateDeep (tag : BitVec 16)
  /-- NAP_WAKE (R432). A wake source in NAP brings the benches back row by row and returns the chip to READY. -/
  | napWake
  /-- DEEP_WAKE (R433). A wake source in DEEP powers the rails up in order and enters BOOT at stage 2. -/
  | deepWake (r : BootRes)
  /-- DEEP_WAKE_TIMEOUT (R433). Rails are not confirmed within 40 ms of a DEEP wake; Plumb asserts ALERT_N and stays in DEEP.
  -/
  | deepWakeTimeout (rail : Nat)
  /-- WAKE_PIN (R434). WAKE_N held low for at least 1 µs acts as a wake source. -/
  | wakePin
  /-- SET_OP (R423). Command that changes the operating point, setting VDD_CORE and relocking the arithmetic clock. -/
  | setOp (tag : BitVec 16) (fails : Nat) (mv : Nat)
  /-- QUIESCE (R382). Command that puts the chip in QUIESCE so the next OPEN is refused. -/
  | quiesce (tag : BitVec 16)
  /-- RESUME (R382). Command that returns the chip from QUIESCE to READY when 128 benches are mapped. -/
  | resume (tag : BitVec 16)
  /-- THROTTLE_START (R425). The current estimate exceeds ILIM or an overcurrent alert arrives; the emergency throttle
  starts. -/
  | throttleStart (iest : Nat) (oc : Bool)
  /-- THROTTLE_END (R425). The estimate stays below 90 % of ILIM for 10 µs and the throttle ends. -/
  | throttleEnd (iest : Nat) (us : Nat)
  /-- PMB_ALERT (R429). PMB_ALERT_N is asserted; STATUS_WORD is read and any fault recorded. -/
  | pmbAlert (rail : Nat) (status : BitVec 16)
  /-- OVER_VOLTAGE (R351). Plumb's ADC reads VDD_CORE too high for 4 µs; rest is driven and the safe voltage restored. -/
  | overVoltage (mv : Nat) (after : Nat) (hit : Option CmdHit := none)
  /-- OVER_TEMP (R351). A junction comparator reads 115 °C on two samples; rest is driven. -/
  | overTemp (sensor : Nat) (t : Int) (hit : Option CmdHit := none)
  /-- SUPPLY_FAULT (R351). Plumb's supply monitor finds an always-on rail out of range; rest is driven. -/
  | supplyFault (hit : Option CmdHit := none)
  /-- XTAL_LOSS (R437). Loss of XTAL_IN is detected; ALERT_N is asserted and the gauge enters DOUBT. -/
  | xtalLoss
  /-- PWRGD_LOSS (R436). PWRGD falls while PORST_N is high; lanes idle, JMCs stop and ALERT_N and REST_N are asserted. -/
  | pwrgdLoss
  /-- PORST_ASSERT (R10). PORST_N asserted holds the part in OFF and clears RWS fields and since-boot counters. -/
  | porstAssert
  /-- PORST_RELEASE (R401). PORST_N rises; BOOTSEL is sampled and the boot stages run to CALIB. -/
  | porstRelease (sel : BitVec 2) (r : BootRes)
  /-- CALIB_COMPLETE (R378). Stacks cleared, gauge LOCKED and 128 benches mapped; the chip leaves CALIB for READY or TEST. -/
  | calibComplete (fails : List Nat)
  /-- HEARTBEAT_WRITE (R346). A write of PLUMB_HB with the next sequence value restarts the heartbeat timer. -/
  | heartbeatWrite (v : Word)
  /-- HEARTBEAT_TIMEOUT (R346). PLUMB_HB_TO passes without a heartbeat; Plumb drives rest, and after a second period resets
  the cabinet. -/
  | heartbeatTimeout (hit : Option CmdHit := none)
  /-- BC_HEARTBEAT_TIMEOUT (R347). A block controller misses PLUMB_BC_TO; Plumb fences the block and restarts its controller.
  -/
  | bcHeartbeatTimeout (d : Nat) (hit : Option CmdHit := none)
  /-- PLUMB_LOCKSTEP_MISMATCH (R348). Plumb's two cores diverge; rest is driven with cause PLUMB_SELF and Plumb is held in
  reset. -/
  | plumbLockstepMismatch (hit : Option CmdHit := none)
  /-- STATE_REQUEST (R379). A write of STATE_REQ requests a block state transition. -/
  | stateRequest (page : Nat) (v : Word) (done : Bool)
  /-- STATE_REQUEST_TIMEOUT (R379). A block state request does not complete within TIMEOUT_CFG; the block returns to its
  former state. -/
  | stateRequestTimeout (page : Nat)
  /-- EVENT_EMIT (R385). After its fixed delay, the EVC emits an event record with a sequence number to the ring, or counts
  it in DIRECT mode. -/
  | eventEmit
  /-- EVC_COAL_TIMEOUT (R387). The oldest unread record reaches COAL_TIME and EVC_IRQ is asserted. -/
  | evcCoalTimeout
  /-- MGP_FRAME_RECEIVE (R390). A management-port frame is stamped and placed in the receive ring or command queue, or
  dropped. -/
  | mgpFrameReceive (f : Frame) (t : Nat)
  /-- STATUS_REQ (R391). A STATUS_REQ frame is answered by hardware with a STATUS_RESP. -/
  | statusReq (tag : BitVec 16) (src : Nat)
  /-- WAKE (R391). A WAKE frame acts as a wake in NAP and DEEP. -/
  | wake
  /-- MGP_TRANSMIT (R390). The cabinet hands a transmit descriptor to the part, which sends and stamps the frame. -/
  | mgpTransmit (t : Nat)
  /-- VERIFY_LOAD (R406). SEC command that verifies an image into a controller's idle slot. -/
  | verifyLoad (tag : BitVec 16) (v : Verdict)
  /-- PAT_VERIFY (R407). SEC command that verifies a pattern image in the carve-out and records it. -/
  | patVerify (tag : BitVec 16) (v : Verdict)
  /-- ARB_ADVANCE (R408). SEC command that raises an anti-rollback counter by blowing fuses. -/
  | arbAdvance (tag : BitVec 16)
  /-- ATTEST (R412). SEC command that writes a signed attestation report. -/
  | attest (tag : BitVec 16)
  /-- IDENTITY (R411). SEC command that writes the two identity public keys. -/
  | identity (tag : BitVec 16)
  /-- PROG_OWNER (R409). SEC command that fuses an owner key hash into a slot. -/
  | progOwner (tag : BitVec 16)
  /-- REVOKE (R410). SEC command that revokes a vendor or owner key slot. -/
  | revoke (tag : BitVec 16)
  /-- DBG_UNLOCK (R415). SEC command that checks a debug unlock token, and if accepted blows a fuse, zeroises keys and resets
  the chip. -/
  | dbgUnlock (tag : BitVec 16) (v : Verdict)
  /-- XSPI_READ (R419). BOOT_XSPI operation that reads flash into local memory. -/
  | xspiRead (data : List Byte) (fail : Bool)
  /-- XSPI_PROGRAM (R419). BOOT_XSPI operation that programs flash from local memory. -/
  | xspiProgram (fail : Bool)
  /-- XSPI_ERASE (R419). BOOT_XSPI operation that erases flash in 4 KiB units. -/
  | xspiErase (fail : Bool)
  /-- LOW_WORD_LATCH (R8). A read of the low word of a 64-bit pair latches its high word. -/
  | lowWordLatch (a : Nat) (width : Nat)
  /-- READ_TO_CLEAR (R10). A read of an RC field returns its value and clears it. -/
  | readToClear (a : Nat) (width : Nat)
  /-- REGISTER_WRITE (R10). A cabinet write to a register without a row of its own, applied by its access code or refused. -/
  | registerWrite (a : Nat) (width : Nat) (v : Word)
  /-- OVER_TEMP_CLEARED (R351). Every junction sensor reads 100 °C or below, so rest cause OVER_TEMP stops being pending in
  PLUMB_REST_PEND. -/
  | overTempCleared (sensor : Nat) (t : Int)
  /-- SUPPLY_RESTORED (R351). VDD_PLUMB and VDD_IO18 have been within range for 10 ms, so rest cause SUPPLY stops being
  pending. -/
  | supplyRestored
  deriving DecidableEq, Repr

end Sys2Proof
end

