-- ==== Sys2Proof/Decode.lean ====
section
/-! DEFINITION. Commands by the bits of the opcode table. -/

namespace Sys2Proof

/-- The command that a word of the opcode table spells. The table gives no row any bits (each row's list of fields is empty), so no
word spells one. -/
def decodeTableWord (_nbits _w : Nat) : Option Instr := none

end Sys2Proof
end

