-- ==== Sys2Proof/Config.lean ====
section
/-! DEFINITION. The free values: constants without a body, so that nothing can be proved of what they are. -/

namespace Sys2Proof.Config

/-- A byte of local memory that nothing has written since the key of boot number `boot` was drawn, at location `a`
(R26, R213: it depends on the boot's encryption key). DESIGN CHOICE, safe: log entry 2. -/
opaque unwritten (boot a : Nat) : BitVec 8

/-- The `k`-th value the part draws that the spec leaves open (nonces, ciphertext and signature bytes, the values the
spec states no result for). DESIGN CHOICE, safe: log entry 1. -/
opaque freeWord (k : Nat) : BitVec 64

/-- What a VRED gives, in output format `f` at logical index `ix`, for a group of which no element is present: the spec states
no result (R182, R468). A function of what R23 lets the bits depend on. DESIGN CHOICE, safe: log entry 21. -/
opaque emptyGroup (fn f ix : Nat) : BitVec 64

/-- The byte at `a` of the verified loader, which boot places in locked lines of L2 (R402). DESIGN CHOICE, safe: log entry 77. -/
opaque loaderByte (a : Nat) : BitVec 8

/-- Byte `n` of the fixed fill of a slot's guard, which the spec does not state (Table 11-3). DESIGN CHOICE, safe: log entry 76. -/
opaque guardFill (n : Nat) : BitVec 8

/-- The window exponent of a window-mode HADA DOT into an accumulator whose chain has not started: the instruction
has no field for it (R180, Table 7-10). DESIGN CHOICE, safe: log entry 7. -/
opaque hadaWindow : Int

/-- Word `n` of DEVICE_ID, a hash of keys that derive from the identity seed (R411): a constant of the part. DESIGN CHOICE,
safe: log entry 3. -/
opaque deviceId (n : Nat) : BitVec 32

/-- Byte `n` of the two identity public keys, the same for the life of the part (R411). DESIGN CHOICE, safe: log entry 3. -/
opaque identityKey (n : Nat) : BitVec 8

/-- Byte `n` of the signatures of a report, `k` the number of the draw (R412). DESIGN CHOICE, safe: log entry 1. -/
opaque signature (k n : Nat) : BitVec 8

end Sys2Proof.Config
end

