-- ==== Sys2Proof/Machine/Numeric.lean ====
section
/-! DEFINITION. Number formats, decoding, rounding, conversion and the numeric events they raise (chapter 3). -/

namespace Sys2Proof.Machine

/-- The fields of CHIP_NUM_MODE (Table 3-7). -/
structure NumMode where
  srEn    : Bool
  flushPz : Bool
  ovfInf  : Bool
  deriving DecidableEq, Repr

/-- The numeric events of one conversion or product: what the audit channels count (R78) and the trap causes of
Table 3-8 it raises, in order. -/
structure Nev where
  sat    : Nat := 0
  flush  : Nat := 0
  ufl    : Nat := 0
  causes : List Nat := []
  deriving DecidableEq, Repr

/-- Both sets of events, the first ones first. -/
def Nev.join (a b : Nev) : Nev :=
  { sat := a.sat + b.sat, flush := a.flush + b.flush, ufl := a.ufl + b.ufl, causes := a.causes ++ b.causes }

def nevNone : Nev := {}
def nevSat : Nev := { sat := 1 }
def nevFlush : Nev := { flush := 1 }
def nevUfl : Nev := { ufl := 1 }
/-- One trap cause of Table 3-8. -/
def nevCause (c : Nat) : Nev := { causes := [c] }

/-- Table 3-8: cause codes. -/
def causeInvArray : Nat := 1
def causeNanWrite : Nat := 2
def causeNanNonan : Nat := 3
def causeNonfinFx : Nat := 4
def causeWinOvf   : Nat := 5
def causeFxOvf    : Nat := 6
def causeChain    : Nat := 7
def causeUfDepth  : Nat := 8

/-- The fields of Table 3-2. -/
structure FmtParams where
  w      : Nat
  mbits  : Nat
  bias   : Int
  emin   : Int
  emax   : Int
  maxq   : Nat
  subn   : Bool
  hasInf : Bool
  hasNan : Bool
  nan    : Nat
  deriving DecidableEq, Repr

/-- Table 3-2, by format code (Table 3-1); any other code has the fields of FP32, and no caller asks for them. -/
def fmtParams (f : Nat) : FmtParams :=
  match f with
  | 0x02 => ⟨16, 7, 127, -126, 127, 255, false, true, true, 0x7FC0⟩
  | 0x03 => ⟨16, 10, 15, -14, 15, 2047, false, true, true, 0x7FC0⟩
  | 0x04 => ⟨8, 3, 7, -6, 8, 14, false, false, true, 0x7F⟩
  | 0x05 => ⟨8, 2, 15, -14, 15, 7, false, true, true, 0x7E⟩
  | 0x06 => ⟨6, 2, 3, -2, 4, 7, true, false, false, 0⟩
  | 0x07 => ⟨6, 3, 1, 0, 2, 15, true, false, false, 0⟩
  | 0x08 => ⟨4, 1, 1, 0, 2, 3, true, false, false, 0⟩
  | _    => ⟨32, 23, 127, -126, 127, 16777215, false, true, true, 0x7FC00000⟩

def fRaw : Nat := 0x00
def fFp32 : Nat := 0x01
def fInt8 : Nat := 0x09
def fE8m0 : Nat := 0x0A
def fS32 : Nat := 0x0B
def fPred : Nat := 0x0C
def fFx32 : Nat := 0x10
def fFx64 : Nat := 0x12
def fFxExp : Nat := 0x13
def fMxInt8 : Nat := 0x25

/-- The format codes that Table 3-1 does not reserve (R50). -/
def fmtKnown (f : Nat) : Bool := f ≤ 0x0C || (0x10 ≤ f && f ≤ 0x13) || (0x20 ≤ f && f ≤ 0x25)
/-- The floating-point element formats of Table 3-2. -/
def fmtFloat (f : Nat) : Bool := 1 ≤ f && f ≤ 8
/-- The element formats that R66 decodes. -/
def fmtElem (f : Nat) : Bool := fmtFloat f || f == fInt8 || f == fS32
def fmtInt (f : Nat) : Bool := f == fInt8 || f == fS32
def fmtFx (f : Nat) : Bool := 0x10 ≤ f && f ≤ 0x12
def fmtMx (f : Nat) : Bool := 0x20 ≤ f && f ≤ 0x25

/-- Width of one element in bits (Table 3-1). -/
def fmtWidth (f : Nat) : Nat :=
  match f with
  | 0x00 | 0x01 | 0x0B | 0x10 => 32
  | 0x02 | 0x03 | 0x13 => 16
  | 0x04 | 0x05 | 0x09 | 0x0A | 0x20 | 0x21 | 0x25 => 8
  | 0x06 | 0x07 | 0x22 | 0x23 => 6
  | 0x08 | 0x24 => 4
  | 0x0C => 1
  | 0x11 => 48
  | 0x12 => 64
  | _ => 32

/-- elem() of R60: the element format of an MX code, any other code itself. -/
def fmtElemOf (f : Nat) : Nat :=
  match f with
  | 0x20 => 0x04 | 0x21 => 0x05 | 0x22 => 0x06 | 0x23 => 0x07 | 0x24 => 0x08 | 0x25 => 0x09
  | _ => f

/-- Elements of one block of a block-scaled format, 0 for another one (Table 3-1, R51). -/
def fmtBlock (f : Nat) : Nat := if fmtFx f then 256 else if fmtMx f then 32 else 0
/-- Format code of the block scale (Table 3-1). -/
def fmtScale (f : Nat) : Nat := if fmtFx f then fFxExp else fE8m0

/-- The classes of R66, in its order. -/
inductive Cls where
  | zero | fin | inf | nan
  deriving DecidableEq, Repr

/-- A decoded operand: value ± sig × 2^lsb when the class is fin; `fl` says that the operand was flushed on input
(R54, R66). -/
structure Dec where
  cls : Cls
  neg : Bool
  sig : Nat := 0
  lsb : Int := 0
  fl  : Bool := false
  deriving DecidableEq, Repr

/-- Two's complement reading of the low `w` bits. -/
def toSigned (w x : Nat) : Int :=
  let y := x % 2 ^ w
  if y < 2 ^ (w - 1) then (y : Int) else (y : Int) - 2 ^ w

/-- The low `w` bits of an integer in two's complement. -/
def ofSigned (w : Nat) (v : Int) : Nat := (v % (2 ^ w : Int)).toNat

/-- A finite integer or fixed-point operand. -/
def decInt (v lsb : Int) : Dec :=
  if v = 0 then { cls := .zero, neg := false } else { cls := .fin, neg := v < 0, sig := v.natAbs, lsb := lsb }

/-- decode of R66 for an element format. -/
def decode (f x : Nat) : Dec :=
  if f = fInt8 then decInt (toSigned 8 x) 0
  else if f = fS32 then decInt (toSigned 32 x) 0
  else
    let p := fmtParams f
    let sg := x / 2 ^ (p.w - 1) % 2 = 1
    let ew := p.w - 1 - p.mbits
    let e := x / 2 ^ p.mbits % 2 ^ ew
    let m := x % 2 ^ p.mbits
    let allOnes := e = 2 ^ ew - 1
    if p.hasInf = true ∧ allOnes then { cls := if m = 0 then .inf else .nan, neg := sg }
    else if p.hasNan = true ∧ p.hasInf = false ∧ allOnes ∧ m = 2 ^ p.mbits - 1 then { cls := .nan, neg := sg }
    else if e = 0 then
      if m = 0 then { cls := .zero, neg := sg }
      else if p.subn then { cls := .fin, neg := sg, sig := m, lsb := p.emin - p.mbits }
      else { cls := .zero, neg := sg, fl := true }
    else { cls := .fin, neg := sg, sig := m + 2 ^ p.mbits, lsb := (e : Int) - p.bias - p.mbits }

/-- Weight of the most significant bit (msb of R6); 0 for 0. -/
def msb (n : Nat) : Int := (Nat.log2 n : Int)

/-- floor(v × 2^k). -/
def scaleFloor (v k : Int) : Int := if 0 ≤ k then v * 2 ^ k.toNat else v / 2 ^ (-k).toNat

/-- ± mag. -/
def signed (neg : Bool) (mag : Nat) : Int := if neg then -(mag : Int) else mag

/-- The three rounding modes of R67, in the code of Table 7-10. -/
inductive Rnd where
  | rne | rto | sr
  deriving DecidableEq, Repr

def rndOf (c : Nat) : Rnd := if c = 1 then .rto else if c = 2 then .sr else .rne

/-- enc_zero of R67: zero with the sign in a floating-point format, 0 in an integer format. -/
def encZero (f : Nat) (neg : Bool) : Nat :=
  if fmtInt f then 0 else if neg then 2 ^ ((fmtParams f).w - 1) else 0

/-- pack of R67. -/
def packFp (f : Nat) (neg : Bool) (e : Int) (frac : Nat) : Nat :=
  let p := fmtParams f
  (if neg then 2 ^ (p.w - 1) else 0) + e.toNat * 2 ^ p.mbits + frac

/-- enc_inf: the infinity of a format that has one. -/
def encInf (f : Nat) (neg : Bool) : Nat :=
  let p := fmtParams f
  packFp f neg (2 ^ (p.w - 1 - p.mbits) - 1) 0

/-- enc_max: the largest finite value of either sign (R53, R67). -/
def encMax (f : Nat) (neg : Bool) : Nat :=
  if f = fInt8 then (if neg then 0x80 else 0x7F)
  else if f = fS32 then (if neg then 0x80000000 else 0x7FFFFFFF)
  else
    let p := fmtParams f
    packFp f neg (p.emax + p.bias) (p.maxq - 2 ^ p.mbits)

def fmtHasNan (f : Nat) : Bool := fmtFloat f && (fmtParams f).hasNan
def fmtHasInf (f : Nat) : Bool := fmtFloat f && (fmtParams f).hasInf
/-- The canonical NaN of a format that has one (R55, Table 3-2). -/
def canonNan (f : Nat) : Nat := (fmtParams f).nan

/-- The increment of R67: whether the significand `q` with remainder `rem` of 2^sh goes up. -/
def roundUp (rnd : Rnd) (q rem sh : Nat) (r : Nat) : Bool :=
  if rem = 0 then false
  else match rnd with
    | .rne => decide (rem > 2 ^ (sh - 1)) || (decide (rem = 2 ^ (sh - 1)) && q % 2 == 1)
    | .rto => q % 2 == 0
    | .sr => decide (rem * 2 ^ 32 / 2 ^ sh > r)

/-- round_to of R67. -/
def roundTo (md : NumMode) (f : Nat) (neg : Bool) (mag : Nat) (lsb : Int) (rnd : Rnd) (r : Nat) : Nat × Nev :=
  if mag = 0 then (encZero f false, nevNone)
  else
    let rnd := if rnd = .sr ∧ md.srEn = false then Rnd.rne else rnd
    let p := fmtParams f
    let int := fmtInt f
    let e := msb mag + lsb
    let g0 := e - p.mbits
    let g1 := if int then 0 else g0
    let g := if int = false ∧ p.subn = true ∧ e < p.emin then p.emin - p.mbits else g1
    let sh := g - lsb
    let q0 := if sh ≤ 0 then mag * 2 ^ (-sh).toNat else mag / 2 ^ sh.toNat
    let rem := if sh ≤ 0 then 0 else mag % 2 ^ sh.toNat
    let q := if roundUp rnd q0 rem sh.toNat r then q0 + 1 else q0
    if int then
      let top := if f = fInt8 then 127 else 2 ^ 31 - 1
      if (neg = false ∧ top < q) ∨ (neg = true ∧ top + 1 < q) then (encMax f neg, nevSat)
      else (ofSigned (if f = fInt8 then 8 else 32) (signed neg q), nevNone)
    else
      let carry := q = 2 ^ (p.mbits + 1)
      let q := if carry then q / 2 else q
      let g := if carry then g + 1 else g
      let e := g + p.mbits
      if p.subn = false ∧ e < p.emin then (encZero f (neg && !md.flushPz), nevFlush)
      else if p.emax < e ∨ (e = p.emax ∧ p.maxq < q) then
        (if p.hasInf && md.ovfInf then encInf f neg else encMax f neg, nevSat)
      else if q < 2 ^ p.mbits then (packFp f neg 0 q, nevNone)
      else (packFp f neg (e + p.bias) (q - 2 ^ p.mbits), nevNone)

/-- The NaN that is written into format `f`, with the cause of R69 and R76. -/
def nanInto (f : Nat) : Nat × Nev :=
  if fmtHasNan f then (canonNan f, nevCause causeNanWrite) else (encZero f false, nevCause causeNanNonan)

/-- convert of R69 on a decoded operand: one rounding into `fout`, the sign of zero kept. -/
def convertDec (md : NumMode) (d : Dec) (fout : Nat) (rnd : Rnd) (r : Nat) : Nat × Nev :=
  match d.cls with
  | .nan => nanInto fout
  | .inf => if fmtHasInf fout then (encInf fout d.neg, nevNone) else (encMax fout d.neg, nevSat)
  | .zero => (encZero fout d.neg, nevNone)
  | .fin => roundTo md fout d.neg d.sig d.lsb rnd r

/-- ZERO_E of section 3.5. -/
def zeroE : Int := -32768

/-- N, H and F of Table 3-5, by format code. -/
def fxN (f : Nat) : Nat := if f = 0x10 then 32 else if f = 0x11 then 48 else 64
def fxH (n : Nat) : Nat := if n = 32 then 15 else 23
def fxF (n : Nat) : Nat := n - 1 - fxH n

/-- sat(N, sg) of R63. -/
def fxSat (n : Nat) (neg : Bool) : Int := if neg then -(2 ^ (n - 1) : Int) else 2 ^ (n - 1) - 1

/-- fx_ex of R63. -/
def fxEx (mag : Nat) (lsb : Int) : Int := if mag = 0 then zeroE else msb mag + lsb + 1

/-- to_fx of R63. -/
def toFx (n : Nat) (e : Int) (d : Dec) : Int × Nev :=
  if d.cls = .inf ∨ d.cls = .nan then (0, nevCause causeNonfinFx)
  else if d.cls = .zero ∨ d.sig = 0 ∨ e = zeroE then (0, nevNone)
  else if e < fxEx d.sig d.lsb then (fxSat n d.neg, nevCause causeFxOvf)
  else
    let k := d.lsb + fxF n - e
    (scaleFloor (signed d.neg d.sig) k, if msb d.sig + k < 0 then nevUfl else nevNone)

/-- The exact value of an FX element (section 3.5), as R66 would give it. -/
def decFx (n : Nat) (e : Int) (x : Int) : Dec :=
  if x = 0 ∨ e = zeroE then { cls := .zero, neg := false } else decInt x (e - fxF n)

/-- An MX element (R56): its element value times its scale; a scale of 0xFF makes it NaN. The element is decoded first, so that a
subnormal one counts as flushed on input whatever the scale, as in the array (R60, R66). -/
def decMx (f x scale : Nat) : Dec :=
  let d := decode (fmtElemOf f) x
  if scale = 0xFF then { cls := .nan, neg := false, fl := d.fl }
  else { d with lsb := d.lsb + ((scale : Int) - 127) + (if f = fMxInt8 then -6 else 0) }

/-! ### Comparison (R73) -/

/-- Order of two finite or infinite values, −0 equal to +0: the exact integers at a common weight. -/
def decKey (a b : Dec) : Int × Int :=
  let lo := min a.lsb b.lsb
  let v (d : Dec) : Int := match d.cls with
    | .fin => signed d.neg (d.sig * 2 ^ (d.lsb - lo).toNat)
    | _ => 0
  (v a, v b)

def decRank (d : Dec) : Int := match d.cls with
  | .inf => if d.neg then -1 else 1
  | _ => 0

/-- a < b by Table 3-6; false with a NaN. -/
def decLt (a b : Dec) : Bool :=
  if a.cls = .nan ∨ b.cls = .nan then false
  else if decRank a ≠ decRank b then decide (decRank a < decRank b)
  else decide ((decKey a b).1 < (decKey a b).2)

def decEq (a b : Dec) : Bool :=
  if a.cls = .nan ∨ b.cls = .nan then false
  else decide (decRank a = decRank b ∧ (decKey a b).1 = (decKey a b).2)

/-- The order MAX and MIN select by: as decLt, with −0 below +0 (Table 3-6). -/
def decBelow (a b : Dec) : Bool :=
  decLt a b || (decide (a.cls = .zero ∧ b.cls = .zero) && a.neg && !b.neg)

/-- The exact sum of two decoded operands (R111): ∞ − ∞ is NaN, an exact zero is +0. -/
def decAdd (a b : Dec) : Dec :=
  if a.cls = .nan ∨ b.cls = .nan then { cls := .nan, neg := false }
  else if a.cls = .inf then
    (if b.cls = .inf ∧ a.neg ≠ b.neg then { cls := .nan, neg := false } else { cls := .inf, neg := a.neg })
  else if b.cls = .inf then { cls := .inf, neg := b.neg }
  else
    let x : Int := if a.cls = .fin then signed a.neg a.sig else 0
    let y : Int := if b.cls = .fin then signed b.neg b.sig else 0
    let la := if a.cls = .fin then a.lsb else b.lsb
    let lb := if b.cls = .fin then b.lsb else a.lsb
    let lo := min la lb
    decInt (x * 2 ^ (la - lo).toNat + y * 2 ^ (lb - lo).toNat) lo

/-- The exact product (R111): 0 × ∞ is NaN, an exact zero is +0. -/
def decMul (a b : Dec) : Dec :=
  if a.cls = .nan ∨ b.cls = .nan then { cls := .nan, neg := false }
  else if a.cls = .inf ∨ b.cls = .inf then
    (if a.cls = .zero ∨ b.cls = .zero then { cls := .nan, neg := false } else { cls := .inf, neg := a.neg != b.neg })
  else if a.cls = .zero ∨ b.cls = .zero then { cls := .zero, neg := false }
  else { cls := .fin, neg := a.neg != b.neg, sig := a.sig * b.sig, lsb := a.lsb + b.lsb }

def decNeg (a : Dec) : Dec := { a with neg := !a.neg }
def decAbs (a : Dec) : Dec := { a with neg := false }

/-! ### Products and drains (R60, R71) -/

/-- The stickies of Table 3-4. -/
structure Stick where
  inv : Bool := false
  ovp : Bool := false
  ovn : Bool := false
  uf  : Bool := false
  deriving DecidableEq, Repr

def Stick.join (a b : Stick) : Stick :=
  { inv := a.inv || b.inv, ovp := a.ovp || b.ovp, ovn := a.ovn || b.ovn, uf := a.uf || b.uf }

/-- An exact dyadic operand of a product: an element times its block scale (R60), or invalid. -/
structure Dy where
  inv : Bool := false
  m   : Int := 0
  e   : Int := 0
  deriving DecidableEq, Repr

/-- An array operand in format `f` with block scale `x` (0x7F when it is not block-scaled), and whether it was flushed
on input (R60). -/
def dyOf (f v x : Nat) : Dy × Bool :=
  let d := decode (fmtElemOf f) v
  let lo : Int := if f = fMxInt8 then -6 else 0
  if d.cls = .inf ∨ d.cls = .nan ∨ x = 0xFF then ({ inv := true }, d.fl)
  else if d.cls = .zero then ({}, d.fl)
  else ({ m := signed d.neg d.sig, e := d.lsb + lo + ((x : Int) - 127) }, d.fl)

def dyMul (a b : Dy) : Dy := if a.inv || b.inv then { inv := true } else { m := a.m * b.m, e := a.e + b.e }

def dyAdd (a b : Dy) : Dy :=
  if a.inv || b.inv then { inv := true }
  else if a.m = 0 then b
  else if b.m = 0 then a
  else
    let lo := min a.e b.e
    { m := a.m * 2 ^ (a.e - lo).toNat + b.m * 2 ^ (b.e - lo).toNat, e := lo }

/-- What one product gives a cell (R60): the term, the residue part of R98, the stickies, and its numeric events. -/
structure TermOut where
  t   : Int := 0
  rho : Int := 0
  st  : Stick := {}
  ufl : Bool := false
  deep : Bool := false

/-- term of R60 on the product `p`; `depth` is UF_DEPTH of the op's audit channel, 0 for none. -/
def termOf (p : Dy) (l : Int) (win : Bool) (depth : Nat) : TermOut :=
  if p.inv then { st := { inv := true } }
  else if p.m = 0 then {}
  else
    let t := scaleFloor p.m (p.e - l)
    let fine := scaleFloor p.m (p.e - l + 40)
    let rho := if win then fine - t * 2 ^ 40 else 0
    let hi := msb p.m.natAbs + p.e
    let low := win && decide (hi < l)
    let deep := low && decide (depth ≠ 0 ∧ l - depth ≤ hi)
    let st : Stick := { uf := low }
    if 2 ^ 64 - 1 < t then { t := 0, rho := rho, st := { st with ovp := true }, ufl := low, deep := deep }
    else if t < -(2 ^ 64) then { t := 0, rho := rho, st := { st with ovn := true }, ufl := low, deep := deep }
    else { t := t, rho := rho, st := st, ufl := low, deep := deep }

/-- One product of a try cell (R98), in units of 2^−32 or, in window mode, of 2^(S − 40); a nonzero product below one of these
units in window mode sets UF (Table 3-4). -/
def tryTermOf (p : Dy) (l : Int) (win : Bool) : Int × Stick :=
  if p.inv then (0, { inv := true })
  else
    let k := if win then p.e - l + 40 else p.e - l
    let v := scaleFloor p.m k
    let uf := win && decide (p.m ≠ 0 ∧ msb p.m.natAbs + k < 0)
    if 2 ^ 118 ≤ v then (0, { ovp := true })
    else if v ≤ -(2 ^ 118) then (0, { ovn := true })
    else (v, { uf := uf })

/-- drain of R71. -/
def drainEl (md : NumMode) (acc : Int) (st : Stick) (chn : Bool) (l : Int) (fout : Nat) (rnd : Rnd) (r : Nat) : Nat × Nev :=
  let bad := if fmtHasNan fout then canonNan fout else encZero fout false
  if st.inv then (bad, nevCause causeInvArray)
  else if st.ovp || st.ovn then
    let c := nevCause (if chn then causeChain else causeWinOvf)
    if st.ovp && st.ovn then (bad, c)
    else (if fmtHasInf fout && md.ovfInf then encInf fout st.ovn else encMax fout st.ovn, c.join nevSat)
  else roundTo md fout (decide (acc < 0)) acc.natAbs l rnd r

/-- drain_fx of R71. -/
def drainFx (acc : Int) (st : Stick) (chn : Bool) (l : Int) (n : Nat) (e : Int) : Int × Nev :=
  if st.inv then (0, nevCause causeInvArray)
  else if st.ovp || st.ovn then
    let c := nevCause (if chn then causeChain else causeWinOvf)
    if st.ovp && st.ovn then (0, c) else (fxSat n st.ovn, c.join nevSat)
  else toFx n e (decInt acc l)

/-! ### MX packing (R72) -/

/-- EMAX of R72 by element format. -/
def mxEmax (f : Nat) : Int :=
  match f with
  | 0x04 => 8 | 0x05 => 15 | 0x06 => 4 | 0x07 => 2 | 0x08 => 2 | _ => 0

/-- The first entry that `p` holds of carries the event `v`, the others none. -/
def firstEv {α : Type} (p : α → Bool) (v : Nev) : List α → List (Nat × Nev)
  | [] => []
  | h :: t => if p h then (0, v) :: t.map (fun _ => (0, nevNone)) else (0, nevNone) :: firstEv p v t

/-- mx_pack of R72 over the values of one block with their draws: the scale, the elements, and the events of each
element; NONFIN_FX arises once in a block, at its first non-finite value. A value of none is an index beyond the tensor's end
(R129): left out of the scale, encoded as 0. -/
def mxPack (md : NumMode) (mx : Nat) (vs : List (Option Dec × Nat)) (rnd : Rnd) : Nat × List (Nat × Nev) :=
  let ef := fmtElemOf mx
  let bad (d : Option Dec) : Bool := match d with
    | some d => decide (d.cls = .inf ∨ d.cls = .nan)
    | none => false
  if vs.any (fun v => bad v.1) then
    (0xFF, firstEv (fun v => bad v.1) (nevCause causeNonfinFx) vs)
  else
    let exOf (d : Option Dec) : Int := match d with
      | some d => if d.cls = .fin then fxEx d.sig d.lsb else zeroE
      | none => zeroE
    let m := vs.foldl (fun a v => max a (exOf v.1)) zeroE
    let x : Int := if m = zeroE then 0 else max (-127) (min 127 (m - 1 - mxEmax ef))
    let k : Int := if mx = fMxInt8 then 6 - x else -x
    ((x + 127).toNat, vs.map fun v => match v.1 with
      | none => (0, nevNone)
      | some d =>
        if d.cls = .fin then roundTo md ef d.neg d.sig (d.lsb + k) rnd v.2 else (encZero ef false, nevNone))

end Sys2Proof.Machine
end

