-- ==== Sys2Proof/Machine/BenchTypes.lean ====
section
/-! DEFINITION. The types of a logical bench's state: streams, clamps, queues, accumulators, outfeed, tap, tray, tickets,
shadow slots (chapters 4 to 8). -/

namespace Sys2Proof.Machine

/-- Sparse data by key: a list of key and value pairs, keys strictly rising, no value equal to what an unlisted key
reads as. -/
abbrev Sparse (α : Type) := List (Nat × α)

/-- The fields of a transfer descriptor (Table 7-4). -/
structure TDesc where
  maddr   : Nat
  fmt     : Nat
  taddr   : Nat
  rowLen  : Nat
  rows    : Nat
  mstride : Nat
  tstride : Nat
  peer    : Nat
  idx     : Nat
  saddr   : Nat
  msaddr  : Nat
  resv    : Bool
  deriving DecidableEq, Repr

/-- Stream states (Table 6-1). -/
inductive StrState where
  | stopped | armed | run | wait | held | done | fault
  deriving DecidableEq, Repr

/-- What a stream in WAIT waits for (Table 6-1). -/
inductive WaitFor where
  | clamp (glob : Bool) (n t : Nat) (rel : Bool) (opid : Word)
  | mark (v : DWord)
  | queue (q : Nat)
  deriving DecidableEq, Repr

/-- The wait that holds back the next instruction of a stream in RUN (Table 6-6, the UNIT_TO row). -/
inductive Stall where
  | tray | ticket | outfeed | array | grant | tapUnread
  deriving DecidableEq, Repr

/-- One block of 64 instructions in a window of the instruction store (R137); whether its address was closed, and the
instructions of it that are poisoned (R467). -/
structure IBlock where
  num    : Nat
  closed : Bool
  bad    : List Nat
  words  : List (BitVec 128)
  deriving DecidableEq, Repr

/-- A SHADOW that marks the next instruction of its stream (R189). -/
structure ShMark where
  copy    : Bool
  tag     : Nat
  partner : Nat
  deriving DecidableEq, Repr

/-- A loop of a stream (R175): the instruction after its LOOP, the iterations left, and the length of its body. -/
structure LoopSt where
  start : Nat
  cnt   : Nat
  len   : Nat
  deriving DecidableEq, Repr

/-- State of one stream of a bench (R138, R126); `reqs` are the blocks requested that have not arrived (R137), `setup` is the trap of a setup read that failed (R467), and `late` counts the
cycles for which the operands of its next array instruction have been late (R86). -/
structure StreamSt where
  state  : StrState := .stopped
  pc     : Nat := 0
  loops  : List LoopSt := []
  qb     : DWord := 0
  wait   : Option WaitFor := none
  stall  : Option Stall := none
  mark   : Option ShMark := none
  blocks : List IBlock := []
  reqs   : List Nat := []
  setup  : Option Nat := none
  late   : Nat := 0
  seed   : DWord := 0
  strv   : Word := 0
  cnt    : BitVec 16 := 0
  keyOk  : Bool := false
  deriving DecidableEq, Repr

/-- A request to a clamp that its next update takes (R145): a CLSET, or an add from any source; `op` is the stream and the
program counter of the instruction that it comes from, none for a remote add (R159). -/
structure ClampReq where
  n   : Nat
  src : Option Stream
  v   : Nat
  op  : Option (Stream × Nat) := none
  deriving DecidableEq, Repr

/-- An entry on its way over the clamp network to a queue of this bench (R147). -/
structure QFlight where
  q : Nat
  v : DWord
  deriving DecidableEq, Repr

/-- One accumulator of a cell, or of a try cell (R81): `n` counts the products beyond those that every cell of the
accumulator counts together. -/
structure Cell where
  acc : Int := 0
  res : Int := 0
  n   : Nat := 0
  st  : Stick := {}
  deriving DecidableEq, Repr

/-- Accumulator A or B of the array: the chain the sequencer keeps (R176), the product count common to every cell, and
the cells at 97 × row + column that differ from a cleared one. -/
structure Accum where
  started : Bool := false
  win     : Bool := false
  l       : Int := 0
  m       : Nat := 0
  c       : Nat := 0
  dot     : Bool := false
  n       : Nat := 0
  cells   : Sparse Cell := []
  deriving DecidableEq, Repr

/-- Where the elements of an outfeed entry or a tap have their logical indices and op ID (R107, R178). -/
structure SrcInfo where
  fmt  : Nat
  idx  : Nat
  rs   : Nat
  cs   : Nat
  opid : Word
  deriving DecidableEq, Repr

/-- One outfeed entry (R90, R91, R468): positions column by column, the used row count (or, for HADA PROD, the count of a
partial entry), and each element with its FX block exponent, and where those were read. -/
structure OfEntry where
  info    : SrcInfo
  saddr   : Nat
  rows    : Nat
  prod    : Bool
  suspect : Bool
  visible : Bool
  data    : List (Nat × Int)
  deriving DecidableEq, Repr

/-- A completion clamp (R166): whether it is global, its number, and the stream and program counter of its instruction. -/
structure CClamp where
  glob : Bool
  n    : Nat
  op   : Stream × Nat
  deriving DecidableEq, Repr

/-- Draws of an instruction (R181): its rounding, and the key and draw number of its stream's context at issue. -/
structure Draws where
  rnd   : Rnd
  keyOk : Bool
  seed  : DWord
  strv  : Word
  d     : Nat
  deriving DecidableEq, Repr

/-- An issued TDRAIN or HADA PROD that waits for an outfeed entry and holds the drain buses (R91): of a HADA PROD, the entries
still to be placed, and the count and witness of all its elements (R44); `reads` are the tray bytes that it reads (R153). -/
structure Drain where
  stream  : Stream
  pc      : Nat
  tdrain  : Bool
  accB    : Bool
  info    : SrcInfo
  saddr   : Nat
  draws   : Draws
  cc      : Option CClamp
  entries : List OfEntry
  count   : Nat
  wit     : DWord
  reads   : List (Nat × Nat)
  deriving DecidableEq, Repr

/-- What becomes of an instruction when an outfeed entry of it becomes visible (R93): with its last entry it completes, and its
witness record is due (R41, R44); until then it is in progress (R141, R153). -/
structure EntryEnd where
  last  : Bool
  str   : Stream
  reads : List (Nat × Nat)
  opid  : Word
  fmt   : Nat
  count : Nat
  wit   : DWord
  cc    : Option CClamp
  deriving DecidableEq, Repr

/-- Tap modes (Table 4-5). -/
inductive TapMode where
  | raw | fx64 | fp32
  deriving DecidableEq, Repr

/-- A TTAP whose stream no plane instruction has read to its last beat (R94, R179), with the tile number it took (R165). -/
structure Tap where
  stream  : Stream
  pc      : Nat
  tile    : Nat
  accB    : Bool
  mode    : TapMode
  info    : SrcInfo
  l       : Int
  suspect : Bool
  raw     : List (Int × Stick × Bool)
  data    : List (Nat × Int)
  cc      : Option CClamp
  reads   : List (Nat × Nat)
  deriving DecidableEq, Repr

/-- The kind of operation a ticket records (R226). -/
inductive TktOp where
  | dmal | dmas | dmax | rsend | rread | glue | rclamp | chkcmp
  deriving DecidableEq, Repr

/-- Ticket completion status (Table 9-4). -/
inductive TktStatus where
  | ok | ue | parity | closed | guard | timeout | abandon | remote
  deriving DecidableEq, Repr

/-- A ticket in use (R226, R187): its instruction, the transfer it makes, its scoreboard entry (first and last byte), the
status gathered so far, the flow of a remote operation, the tag of a CHKCMP, and the granule operations not yet
acknowledged. -/
structure Ticket where
  n      : Nat
  stream : Stream
  pc     : Nat
  opid   : Word
  op     : TktOp
  bc     : Nat
  cc     : Option CClamp
  td     : Option TDesc
  sb     : Option (Nat × Nat)
  status : TktStatus
  flow   : Option Nat
  tag    : Nat
  left   : Nat
  deriving DecidableEq, Repr

/-- A shadow witness slot (R132, R189): the primary's own, by tag. -/
structure ShSlot where
  partner : Nat
  opid    : Word
  wit     : Option DWord
  deriving DecidableEq, Repr

/-- State of one bench that moves with its logical bench (R14), and the marks of a program loaded into it. -/
structure Bench where
  f        : StreamSt := {}
  b        : StreamSt := {}
  u        : StreamSt := {}
  clamps   : Sparse (BitVec 16) := []
  clampReq : List ClampReq := []
  queues   : Sparse (List DWord) := []
  flights  : List QFlight := []
  accA     : Accum := {}
  accB     : Accum := {}
  outfeed  : List OfEntry := []
  drain    : Option Drain := none
  reading  : List EntryEnd := []
  tap      : Option Tap := none
  tray     : Sparse Byte := []
  trayBad  : List Nat := []
  tickets  : List Ticket := []
  own      : Sparse ShSlot := []
  theirs   : Sparse DWord := []
  dt       : List (BitVec 16) := []
  dtBad    : Option Nat := none
  tiles    : Sparse Nat := []
  locked   : Bool := false
  deriving DecidableEq, Repr

end Sys2Proof.Machine
end

