-- ==== Sys2Proof/Machine/CtlTypes.lean ====
section
/-! DEFINITION. The types of the hold, the freeze, the bench swap, resets, and firmware (R149, R155, R356, R362, R392). -/

namespace Sys2Proof.Machine

/-- A hold: none; the benches are frozen until every late item has arrived; released, and about to resume (R149). -/
inductive HoldPh where
  | none | frozen | releasing
  deriving DecidableEq, Repr

/-- A bench swap in progress (R362): the logical bench, its target, the disposition of the bench it leaves, its command's
tag, and whether it raised a hold. -/
structure SwapSt where
  l    : Nat
  p    : Nat
  disp : Nat
  held : Bool
  deriving DecidableEq, Repr

/-- A reset of a domain (R355, R358): its code, whether the fence's drain is over and the reset has started, the block states
that its benches had before the fence, and whether it has exceeded its bound. -/
structure ResetSt where
  dom     : Nat
  running : Bool
  was     : List (Nat × Nat)
  late    : Bool
  deriving DecidableEq, Repr

/-- A block controller (R19, R402): the verified images in its slots A and B, the slot it runs, and the slot last
activated (R392). -/
structure FwUnit where
  a    : Option ImgInfo := none
  b    : Option ImgInfo := none
  run  : Option Nat := none
  last : Option Nat := none
  deriving DecidableEq, Repr

/-- A block controller that restarts and has not sent its first heartbeat (R347, R392): its domain, the slot it restarts from,
whether FW_ACTIVATE restarts it, and the link state and block state that its block had. -/
structure Restart where
  dom  : Nat
  slot : Nat
  cmd  : Bool
  link : Nat
  blk  : Nat
  deriving DecidableEq, Repr

end Sys2Proof.Machine
end

