-- ==== Sys2Proof/Machine/LinkTypes.lean ====
section
/-! DEFINITION. The types of the links' state: flits, operations on flow contexts, and seal tokens (chapters 11 and 12). -/

namespace Sys2Proof.Machine

/-- A flit of a context that waits for its first transmission, with the ticket of its operation. -/
structure TxFlit where
  typ  : FlitType
  last : Bool
  pay  : List Byte
  tkt  : Option Nat
  deriving DecidableEq, Repr

/-- An operation of a context whose report has not come back (Table 12-2): its ticket, address, rows and row stride; for a READ the
transfer it fills and the bytes received; for a multicast the flits the switch has still to acknowledge. -/
structure TxOp where
  tkt  : Nat
  addr : Nat
  rows : Nat
  mstride : Nat
  read : Option TDesc
  got  : List Byte
  left : Nat
  deriving DecidableEq, Repr

/-- OPK of Table 12-3. -/
inductive OpKind where
  | write | read | glue | clamp
  deriving DecidableEq, Repr

/-- The OP payload of Table 12-3. -/
structure OpPay where
  opk     : OpKind
  fmt     : Nat := 0
  tkt     : Nat := 0
  opid    : Nat := 0
  addr    : Nat := 0
  rowLen  : Nat := 0
  rows    : Nat := 0
  mstride : Nat := 0
  saddr   : Nat := 0
  slen    : Nat := 0
  clamp   : Nat := 0
  deriving DecidableEq, Repr

/-- A received WRITE or GLUE whose data is arriving: the bytes so far, and the first non-OK status met. -/
structure RxOp where
  op     : OpPay
  mc     : Bool
  got    : List Byte
  status : TktStatus
  deriving DecidableEq, Repr

/-- Capture digest of a flow in a step (Table 2-6): flits and witness. -/
structure Digest where
  flits : Nat := 0
  wit   : DWord := 0
  deriving DecidableEq, Repr

/-- What a flow context holds beyond its words (chapter 12): flits to send, the sequence
numbers of the credit-bearing ones that CUM_SEQ has not covered, operations sent and not reported, the operation
being received, FACK entries to return, and CUM_SEQ with whether it has advanced since it was last returned. -/
structure FlowSt where
  txq    : List TxFlit := []
  out    : List Nat := []
  ops    : List TxOp := []
  rx     : Option RxOp := none
  acks   : List (Nat × TktStatus) := []
  cum    : Nat := 0
  cumNew : Bool := false
  digest : Digest := {}
  deriving DecidableEq, Repr

/-- A flit in a retry buffer (R279): the context it belongs to, the gauge of the slot of its last transmission, how often
it has been sent, whether it waits for retransmission and since when, in 0.1 ns, and whether its slot has been acknowledged. -/
structure RetryFlit where
  flit  : Flit
  ctx   : Nat
  tkt   : Option Nat
  slot  : Nat
  sends : Nat
  again : Bool
  acked : Bool
  since : Nat := 0
  deriving DecidableEq, Repr

/-- A slot sent: its boundary, kind, acknowledgement report, announced swap, granted open credit and flits. -/
structure Slot where
  g     : Nat
  kind  : SlotKind
  ack   : Option (Nat × Bool)
  swap  : Option (Nat × Nat)
  cred  : Nat
  flits : List Flit
  deriving DecidableEq, Repr

/-- What a received slot holds, and how it was received (Table 11-4, R278): the gauge of its boundary, the time in 0.1 ns at which
its first symbol arrived, ACK_REF that names it, its kind, whether its preamble's CRC, its flits' CRCs and its tag are valid, its
report (ACK_REF and whether it is an ACK), OPEN_CRED, and its non-empty flits. -/
structure RxSlot where
  g       : Nat
  arr     : Nat
  ref     : Nat
  kind    : SlotKind
  preOk   : Bool
  flitsOk : Bool
  tagOk   : Bool
  rep     : Option (Nat × Bool)
  cred    : Nat
  flits   : List Flit
  deriving DecidableEq, Repr

/-- A cutting list (Table 11-8) with its schedule identity. -/
structure CutList where
  id   : Nat
  ents : List Word
  deriving DecidableEq, Repr

/-- What a spline holds beyond its registers (chapters 10 and 11): its retry buffer, the boundaries of the slots it sent that
await a report, and open credit; the flits it has received and not handed on with the boundary of their slot; reports to send,
with the end of the slot reported in 0.1 ns; its cutting lists, and whether it awaits the echo of a new list; its keys (16 words,
transmit first) and those written for the next pair; tag failures of a telemetry interval; the time of an echo request in 0.1 ns,
and the exchanges of a training; the advance until a change of it takes effect, and the boundary at which that happens (R253); a
lane swap in progress (logical and physical lane), and when it is taken; the last slot it sent, and what its physical lanes
carry; the end of the knock (R284); and an echo reply to send in back-to-back mode. -/
structure SplineSt where
  rbuf     : List RetryFlit := []
  unrep    : List Nat := []
  openCred : Nat := 0
  rxq      : List (Nat × Flit) := []
  reports  : List (Nat × Bool × Nat) := []
  active   : Option CutList := none
  pend     : Option CutList := none
  needEcho : Bool := false
  keys     : List Word := []
  newKeys  : Sparse Word := []
  tagFails : Nat := 0
  tagIv    : Nat := 0
  echoAt   : Option Nat := none
  exch     : List EchoMeas := []
  advWas   : Option (Nat × Nat) := none
  swap     : Option (Nat × Nat) := none
  swapAt   : Nat := 0
  lastTx   : Option Slot := none
  wire     : List (List Nat) := []
  knockEnd : Nat := 0
  echoRep  : Option Flit := none
  deriving DecidableEq, Repr

/-- A seal token or decision (Table 12-6). -/
structure Token where
  clean  : Bool
  origin : Nat
  epoch  : Nat
  step   : Nat
  wsum   : DWord
  count  : Nat
  cause  : Nat
  first  : Option Nat
  deriving DecidableEq, Repr

end Sys2Proof.Machine
end

