-- ==== Sys2Proof/Machine/RegTable.lean ====
section
/-! DEFINITION. The register pages: their classes and instances, the registers of each class with their access masks
and reset values (chapter 18 and the tables of the other chapters), and the management offset of each register. A
register's offset is its class times 0x10_0000, plus its instance times 0x1000, plus its offset in the page (R20). -/

namespace Sys2Proof.Machine

/-- Management offset of page `inst` of class `cls` (R20, R375). -/
def pageOf (cls inst : Nat) : Nat := cls * 0x100000 + inst * 0x1000

/-- Instances of each page class, 0 for a class that does not exist (Table 18-1). -/
def pageCount (cls : Nat) : Nat :=
  match cls with
  | 0x00 => 1
  | 0x01 => 132
  | 0x02 => 132
  | 0x03 => 132
  | 0x04 => 132
  | 0x08 => 1
  | 0x09 => 1
  | 0x0C => 8
  | 0x0D => 8
  | 0x10 => 16
  | 0x11 => 2
  | 0x12 => 48
  | 0x13 => 16
  | 0x14 => 1
  | 0x18 => 1
  | 0x19 => 1
  | 0x1C => 1
  | 0x1D => 1
  | 0x1E => 1
  | 0x20 => 1
  | 0x21 => 1
  | 0x24 => 1
  | 0x28 => 1
  | 0x29 => 1
  | 0x2A => 1
  | 0x2C => 1
  | 0x2D => 1
  | _ => 0

/-- The CHIP page (class 0x00). -/
def Pg.CHIP : Nat := pageOf 0x00 0
/-- The BENCH pages (class 0x01). -/
def Pg.BENCH (i : Nat) : Nat := pageOf 0x01 i
/-- The PLANE pages (class 0x02). -/
def Pg.PLANE (i : Nat) : Nat := pageOf 0x02 i
/-- The SEQ pages (class 0x03). -/
def Pg.SEQ (i : Nat) : Nat := pageOf 0x03 i
/-- The TRAY pages (class 0x04). -/
def Pg.TRAY (i : Nat) : Nat := pageOf 0x04 i
/-- The HOLD page (class 0x08). -/
def Pg.HOLD : Nat := pageOf 0x08 0
/-- The CLAMPNET page (class 0x09). -/
def Pg.CLAMPNET : Nat := pageOf 0x09 0
/-- The JMC pages (class 0x0C). -/
def Pg.JMC (i : Nat) : Nat := pageOf 0x0C i
/-- The JSTACK pages (class 0x0D). -/
def Pg.JSTACK (i : Nat) : Nat := pageOf 0x0D i
/-- The SPLINE pages (class 0x10). -/
def Pg.SPLINE (i : Nat) : Nat := pageOf 0x10 i
/-- The LINKDIE pages (class 0x11). -/
def Pg.LINKDIE (i : Nat) : Nat := pageOf 0x11 i
/-- The FLOWTAB pages (class 0x12). -/
def Pg.FLOWTAB (i : Nat) : Nat := pageOf 0x12 i
/-- The CUTLIST pages (class 0x13). -/
def Pg.CUTLIST (i : Nat) : Nat := pageOf 0x13 i
/-- The SEALU page (class 0x14). -/
def Pg.SEALU : Nat := pageOf 0x14 0
/-- The GAUGE page (class 0x18). -/
def Pg.GAUGE : Nat := pageOf 0x18 0
/-- The TELEM page (class 0x19). -/
def Pg.TELEM : Nat := pageOf 0x19 0
/-- The EVC page (class 0x1C). -/
def Pg.EVC : Nat := pageOf 0x1C 0
/-- The CABINET page (class 0x1D). -/
def Pg.CABINET : Nat := pageOf 0x1D 0
/-- The MGP page (class 0x1E). -/
def Pg.MGP : Nat := pageOf 0x1E 0
/-- The PWR page (class 0x20). -/
def Pg.PWR : Nat := pageOf 0x20 0
/-- The AVS page (class 0x21). -/
def Pg.AVS : Nat := pageOf 0x21 0
/-- The PLUMB page (class 0x24). -/
def Pg.PLUMB : Nat := pageOf 0x24 0
/-- The SEC page (class 0x28). -/
def Pg.SEC : Nat := pageOf 0x28 0
/-- The FUSE page (class 0x29). -/
def Pg.FUSE : Nat := pageOf 0x29 0
/-- The BOOT page (class 0x2A). -/
def Pg.BOOT : Nat := pageOf 0x2A 0
/-- The TEST page (class 0x2C). -/
def Pg.TEST : Nat := pageOf 0x2C 0
/-- The DBG page (class 0x2D). -/
def Pg.DBG : Nat := pageOf 0x2D 0

/-- One register of a page, or `cnt` of them `stride` apart: its offset, the bits the cabinet writes (RW and RWS), the
bits it writes while the page is not locked (RWL), the bits cleared by writing 1 (W1C), the bits cleared by a read
(RC), and its reset value (R10). -/
structure RegRow where
  off    : Nat
  cnt    : Nat := 1
  stride : Nat := 4
  rw     : Nat := 0
  rwl    : Nat := 0
  w1c    : Nat := 0
  rc     : Nat := 0
  reset  : Nat := 0
  deriving DecidableEq, Repr

def Rg.PAGE_ID (page : Nat) : Nat := page + 0x000
def Rg.PAGE_CAPS (page : Nat) : Nat := page + 0x004
def Rg.STATE (page : Nat) : Nat := page + 0x008
def Rg.STATE_REQ (page : Nat) : Nat := page + 0x00C
def Rg.FENCE (page : Nat) : Nat := page + 0x010
def Rg.HEALTH (page : Nat) : Nat := page + 0x014
def Rg.ERR_FIRST (page : Nat) : Nat := page + 0x018
def Rg.ERR_FIRST_GAUGE (page : Nat) : Nat := page + 0x01C
def Rg.ERR_COUNT (page : Nat) : Nat := page + 0x020
def Rg.REFUSED (page : Nat) : Nat := page + 0x024
def Rg.TIMEOUT_CFG (page : Nat) : Nat := page + 0x028
def Rg.EVENT_EN (page : Nat) : Nat := page + 0x02C
def Rg.FW_SLOT (page : Nat) : Nat := page + 0x030
def Rg.LOCK (page : Nat) : Nat := page + 0x034
def Rg.SCRATCH (page : Nat) : Nat := page + 0x038
def Rg.HDR_CHECK (page : Nat) : Nat := page + 0x03C

def Rg.COMMAND : Nat := Pg.CHIP + 0x040
def Rg.COMMAND_STATUS : Nat := Pg.CHIP + 0x044
def Rg.CHIP_CMD_ARG0 : Nat := Pg.CHIP + 0x048
def Rg.CHIP_CMD_ARG1 : Nat := Pg.CHIP + 0x04C
def Rg.CHIP_NUM_MODE : Nat := Pg.CHIP + 0x0C0
def Rg.BENCH_NTRAP_OP (i : Nat) : Nat := Pg.BENCH i + 0x200
def Rg.BENCH_NTRAP_CAUSE (i : Nat) : Nat := Pg.BENCH i + 0x204
def Rg.BENCH_NTRAP_POS_LO (i : Nat) : Nat := Pg.BENCH i + 0x208
def Rg.BENCH_NTRAP_POS_HI (i : Nat) : Nat := Pg.BENCH i + 0x20C
def Rg.BENCH_NTRAP_COUNT (i : Nat) : Nat := Pg.BENCH i + 0x210
def Rg.BENCH_XTRAP_OP (i : Nat) : Nat := Pg.BENCH i + 0x220
def Rg.BENCH_XTRAP_CAUSE (i : Nat) : Nat := Pg.BENCH i + 0x224
def Rg.BENCH_XTRAP_PC (i : Nat) : Nat := Pg.BENCH i + 0x228
def Rg.BENCH_XTRAP_COUNT (i : Nat) : Nat := Pg.BENCH i + 0x22C
def Rg.BENCH_TRY_STAT (i : Nat) : Nat := Pg.BENCH i + 0x240
def Rg.BENCH_TRY_OP (i : Nat) : Nat := Pg.BENCH i + 0x244
def Rg.BENCH_TRY_POS_LO (i : Nat) : Nat := Pg.BENCH i + 0x248
def Rg.BENCH_TRY_POS_HI (i : Nat) : Nat := Pg.BENCH i + 0x24C
def Rg.BENCH_TRY_SKIP (i : Nat) : Nat := Pg.BENCH i + 0x250
def Rg.BENCH_TRY_COUNT (i : Nat) : Nat := Pg.BENCH i + 0x254
def Rg.BENCH_TRY_INJ (i : Nat) : Nat := Pg.BENCH i + 0x258
def Rg.BENCH_ARR_LSTALL_LO (i : Nat) : Nat := Pg.BENCH i + 0x280
def Rg.BENCH_ARR_LSTALL_HI (i : Nat) : Nat := Pg.BENCH i + 0x284
def Rg.BENCH_ARR_ASTALL (i : Nat) : Nat := Pg.BENCH i + 0x288
def Rg.BENCH_ARR_DWAIT (i : Nat) : Nat := Pg.BENCH i + 0x28C
def Rg.BENCH_ILK_TRAY (i : Nat) : Nat := Pg.BENCH i + 0x290
def Rg.BENCH_ILK_QUEUE (i : Nat) : Nat := Pg.BENCH i + 0x294
def Rg.BENCH_TKT_WAIT (i : Nat) : Nat := Pg.BENCH i + 0x298
def Rg.BENCH_AUDn_OP (i : Nat) (n : Nat) : Nat := Pg.BENCH i + 0x400 + n * 0x20
def Rg.BENCH_AUDn_CTL (i : Nat) (n : Nat) : Nat := Pg.BENCH i + 0x404 + n * 0x20
def Rg.BENCH_AUDn_SAT_LO (i : Nat) (n : Nat) : Nat := Pg.BENCH i + 0x408 + n * 0x20
def Rg.BENCH_AUDn_SAT_HI (i : Nat) (n : Nat) : Nat := Pg.BENCH i + 0x40C + n * 0x20
def Rg.BENCH_AUDn_FLUSH_LO (i : Nat) (n : Nat) : Nat := Pg.BENCH i + 0x410 + n * 0x20
def Rg.BENCH_AUDn_FLUSH_HI (i : Nat) (n : Nat) : Nat := Pg.BENCH i + 0x414 + n * 0x20
def Rg.BENCH_AUDn_UFL_LO (i : Nat) (n : Nat) : Nat := Pg.BENCH i + 0x418 + n * 0x20
def Rg.BENCH_AUDn_UFL_HI (i : Nat) (n : Nat) : Nat := Pg.BENCH i + 0x41C + n * 0x20
def Rg.PLANE_STAT (i : Nat) : Nat := Pg.PLANE i + 0x040
def Rg.PLANE_OFQ_WAIT (i : Nat) : Nat := Pg.PLANE i + 0x044
def Rg.PLANE_GRAIN_STAT (i : Nat) : Nat := Pg.PLANE i + 0x048
def Rg.PLANE_GRAIN_MISS (i : Nat) : Nat := Pg.PLANE i + 0x04C
def Rg.PLANE_TTAB_CTL (i : Nat) : Nat := Pg.PLANE i + 0x050
def Rg.PLANE_TTAB_STAT (i : Nat) : Nat := Pg.PLANE i + 0x054
def Rg.PLANE_SHD_STAT (i : Nat) : Nat := Pg.PLANE i + 0x060
def Rg.PLANE_SHD_OP (i : Nat) : Nat := Pg.PLANE i + 0x064
def Rg.PLANE_SHD_WITP_LO (i : Nat) : Nat := Pg.PLANE i + 0x068
def Rg.PLANE_SHD_WITP_HI (i : Nat) : Nat := Pg.PLANE i + 0x06C
def Rg.PLANE_SHD_WITS_LO (i : Nat) : Nat := Pg.PLANE i + 0x070
def Rg.PLANE_SHD_WITS_HI (i : Nat) : Nat := Pg.PLANE i + 0x074
def Rg.PLANE_SHD_COUNT (i : Nat) : Nat := Pg.PLANE i + 0x078
def Rg.SEQ_STREAM_CTL (i : Nat) : Nat := Pg.SEQ i + 0x040
def Rg.SEQ_STREAM_STAT (i : Nat) : Nat := Pg.SEQ i + 0x044
def Rg.SEQ_PC_F (i : Nat) : Nat := Pg.SEQ i + 0x050
def Rg.SEQ_PC_B (i : Nat) : Nat := Pg.SEQ i + 0x054
def Rg.SEQ_PC_U (i : Nat) : Nat := Pg.SEQ i + 0x058
def Rg.SEQ_DT_BASE_LO (i : Nat) : Nat := Pg.SEQ i + 0x060
def Rg.SEQ_DT_BASE_HI (i : Nat) : Nat := Pg.SEQ i + 0x064
def Rg.SEQ_WIN (i : Nat) : Nat := Pg.SEQ i + 0x068
def Rg.SEQ_PROGn_LO (i : Nat) (n : Nat) : Nat := Pg.SEQ i + 0x070 + n * 0x8
def Rg.SEQ_PROGn_HI (i : Nat) (n : Nat) : Nat := Pg.SEQ i + 0x074 + n * 0x8
def Rg.SEQ_BUDGET0 (i : Nat) : Nat := Pg.SEQ i + 0x0A0
def Rg.SEQ_BUDGETk (i : Nat) (n : Nat) : Nat := Pg.SEQ i + 0x0A4 + n * 0x4
def Rg.SEQ_CLCLASSn (i : Nat) (n : Nat) : Nat := Pg.SEQ i + 0x0C0 + n * 0x4
def Rg.SEQ_CLTOk (i : Nat) (n : Nat) : Nat := Pg.SEQ i + 0x100 + n * 0x4
def Rg.SEQ_UNIT_TO (i : Nat) : Nat := Pg.SEQ i + 0x110
def Rg.SEQ_WAITG_LATE (i : Nat) : Nat := Pg.SEQ i + 0x114
def Rg.SEQ_LOCK_STAT (i : Nat) : Nat := Pg.SEQ i + 0x120
def Rg.SEQ_SYNC_FAULT (i : Nat) : Nat := Pg.SEQ i + 0x124
def Rg.SEQ_SYNC_PC (i : Nat) : Nat := Pg.SEQ i + 0x128
def Rg.SEQ_PRE_LO (i : Nat) : Nat := Pg.SEQ i + 0x130
def Rg.SEQ_PRE_HI (i : Nat) : Nat := Pg.SEQ i + 0x134
def Rg.SEQ_PRE_DST (i : Nat) : Nat := Pg.SEQ i + 0x138
def Rg.SEQ_PRE_LEN (i : Nat) : Nat := Pg.SEQ i + 0x13C
def Rg.SEQ_CLVALn (i : Nat) (n : Nat) : Nat := Pg.SEQ i + 0x400 + n * 0x4
def Rg.TRAY_ECC_CE (i : Nat) : Nat := Pg.TRAY i + 0x040
def Rg.TRAY_ECC_UE (i : Nat) : Nat := Pg.TRAY i + 0x044
def Rg.TRAY_SB_STAT (i : Nat) : Nat := Pg.TRAY i + 0x048
def Rg.HOLD_CTRL : Nat := Pg.HOLD + 0x040
def Rg.HOLD_TO : Nat := Pg.HOLD + 0x044
def Rg.HOLD_COUNT : Nat := Pg.HOLD + 0x048
def Rg.HOLD_CYC_LO : Nat := Pg.HOLD + 0x04C
def Rg.HOLD_CYC_HI : Nat := Pg.HOLD + 0x050
def Rg.HOLD_LAST : Nat := Pg.HOLD + 0x054
def Rg.HOLD_FREEZE_CTL : Nat := Pg.HOLD + 0x058
def Rg.HOLD_FREEZE_STAT : Nat := Pg.HOLD + 0x05C
def Rg.HOLD_FREEZE_BASE_LO : Nat := Pg.HOLD + 0x060
def Rg.HOLD_FREEZE_BASE_HI : Nat := Pg.HOLD + 0x064
def Rg.HOLD_RESUME_MARK_LO : Nat := Pg.HOLD + 0x068
def Rg.HOLD_RESUME_MARK_HI : Nat := Pg.HOLD + 0x06C
def Rg.HOLD_JIG_ID_LO : Nat := Pg.HOLD + 0x070
def Rg.HOLD_JIG_ID_HI : Nat := Pg.HOLD + 0x074
def Rg.HOLD_START_MARK_LO : Nat := Pg.HOLD + 0x078
def Rg.HOLD_START_MARK_HI : Nat := Pg.HOLD + 0x07C
def Rg.HOLD_MAPn (n : Nat) : Nat := Pg.HOLD + 0x080 + n * 0x4
def Rg.CLN_OVF : Nat := Pg.CLAMPNET + 0x040
def Rg.CLN_GCLASSn (n : Nat) : Nat := Pg.CLAMPNET + 0x080 + n * 0x4
def Rg.CLN_GVALn (n : Nat) : Nat := Pg.CLAMPNET + 0x100 + n * 0x4
def Rg.JMC_STAT (i : Nat) : Nat := Pg.JMC i + 0x040
def Rg.JMC_CE_COUNT (i : Nat) : Nat := Pg.JMC i + 0x044
def Rg.JMC_UE_COUNT (i : Nat) : Nat := Pg.JMC i + 0x048
def Rg.JMC_PAR_COUNT (i : Nat) : Nat := Pg.JMC i + 0x04C
def Rg.JMC_UE_ADDR_LO (i : Nat) : Nat := Pg.JMC i + 0x050
def Rg.JMC_UE_ADDR_HI (i : Nat) : Nat := Pg.JMC i + 0x054
def Rg.JMC_TKT_TO (i : Nat) : Nat := Pg.JMC i + 0x058
def Rg.JMC_REF_WAIT (i : Nat) : Nat := Pg.JMC i + 0x05C
def Rg.JMC_XREF_WAIT (i : Nat) : Nat := Pg.JMC i + 0x060
def Rg.JMC_GLUE_COUNT (i : Nat) : Nat := Pg.JMC i + 0x064
def Rg.JMC_GUARD_REF (i : Nat) : Nat := Pg.JMC i + 0x068
def Rg.JMC_RELOC_PROG (i : Nat) : Nat := Pg.JMC i + 0x06C
def Rg.JMC_GRn_BASE_LO (i : Nat) (n : Nat) : Nat := Pg.JMC i + 0x400 + n * 0x10
def Rg.JMC_GRn_BASE_HI (i : Nat) (n : Nat) : Nat := Pg.JMC i + 0x404 + n * 0x10
def Rg.JMC_GRn_CTL (i : Nat) (n : Nat) : Nat := Pg.JMC i + 0x408 + n * 0x10
def Rg.JST_STAT (i : Nat) : Nat := Pg.JSTACK i + 0x040
def Rg.JST_SCRUB (i : Nat) : Nat := Pg.JSTACK i + 0x044
def Rg.JST_SCRUB_PASS (i : Nat) : Nat := Pg.JSTACK i + 0x048
def Rg.JST_SCRUB_CE (i : Nat) : Nat := Pg.JSTACK i + 0x04C
def Rg.JST_SCRUB_UE (i : Nat) : Nat := Pg.JSTACK i + 0x050
def Rg.JST_REPAIR (i : Nat) : Nat := Pg.JSTACK i + 0x054
def Rg.JST_RETRAIN (i : Nat) : Nat := Pg.JSTACK i + 0x058
def Rg.SPL_CTL (i : Nat) : Nat := Pg.SPLINE i + 0x040
def Rg.SPL_STAT (i : Nat) : Nat := Pg.SPLINE i + 0x044
def Rg.SPL_LANE_MAP (i : Nat) : Nat := Pg.SPLINE i + 0x048
def Rg.SPL_LANE_THR (i : Nat) : Nat := Pg.SPLINE i + 0x04C
def Rg.SPL_PEER (i : Nat) : Nat := Pg.SPLINE i + 0x050
def Rg.SPL_SCHED (i : Nat) : Nat := Pg.SPLINE i + 0x054
def Rg.SPL_RETRY (i : Nat) : Nat := Pg.SPLINE i + 0x060
def Rg.SPL_NACK (i : Nat) : Nat := Pg.SPLINE i + 0x064
def Rg.SPL_RX_REJ (i : Nat) : Nat := Pg.SPLINE i + 0x068
def Rg.SPL_AUTH_ERR (i : Nat) : Nat := Pg.SPLINE i + 0x06C
def Rg.SPL_DROP (i : Nat) : Nat := Pg.SPLINE i + 0x070
def Rg.SPL_MISROUTE (i : Nat) : Nat := Pg.SPLINE i + 0x074
def Rg.SPL_STALE (i : Nat) : Nat := Pg.SPLINE i + 0x078
def Rg.SPL_SWAP (i : Nat) : Nat := Pg.SPLINE i + 0x07C
def Rg.SPL_KEY_MARK_LO (i : Nat) : Nat := Pg.SPLINE i + 0x080
def Rg.SPL_KEY_MARK_HI (i : Nat) : Nat := Pg.SPLINE i + 0x084
def Rg.SPL_KEY_CTL (i : Nat) : Nat := Pg.SPLINE i + 0x088
def Rg.SPL_KEY_TXn (i : Nat) (n : Nat) : Nat := Pg.SPLINE i + 0x0C0 + n * 0x4
def Rg.SPL_KEY_RXn (i : Nat) (n : Nat) : Nat := Pg.SPLINE i + 0x0E0 + n * 0x4
def Rg.SPL_ECHO_ADV (i : Nat) : Nat := Pg.SPLINE i + 0x100
def Rg.SPL_ECHO_LAST (i : Nat) : Nat := Pg.SPLINE i + 0x104
def Rg.SPL_ECHO_ASYM (i : Nat) : Nat := Pg.SPLINE i + 0x108
def Rg.SPL_ECHO_EXC (i : Nat) : Nat := Pg.SPLINE i + 0x10C
def Rg.SPL_ECHO_STAT (i : Nat) : Nat := Pg.SPLINE i + 0x110
def Rg.SPL_FEC_CEy (i : Nat) (n : Nat) : Nat := Pg.SPLINE i + 0x200 + n * 0x4
def Rg.SPL_FEC_UEy (i : Nat) (n : Nat) : Nat := Pg.SPLINE i + 0x240 + n * 0x4
def Rg.LKD_MEMBER (i : Nat) : Nat := Pg.LINKDIE i + 0x040
def Rg.LKD_EPOCH (i : Nat) : Nat := Pg.LINKDIE i + 0x044
def Rg.LKD_EPOCH_NEXT (i : Nat) : Nat := Pg.LINKDIE i + 0x048
def Rg.LKD_OVERRUN (i : Nat) : Nat := Pg.LINKDIE i + 0x04C
def Rg.LKD_CAP_CTL (i : Nat) : Nat := Pg.LINKDIE i + 0x080
def Rg.LKD_CAP_BASE_LO (i : Nat) : Nat := Pg.LINKDIE i + 0x088
def Rg.LKD_CAP_BASE_HI (i : Nat) : Nat := Pg.LINKDIE i + 0x08C
def Rg.LKD_CAP_WR (i : Nat) : Nat := Pg.LINKDIE i + 0x090
def Rg.LKD_CAP_RD (i : Nat) : Nat := Pg.LINKDIE i + 0x094
def Rg.LKD_CAP_LOST (i : Nat) : Nat := Pg.LINKDIE i + 0x098
def Rg.LKD_GRPn (i : Nat) (n : Nat) : Nat := Pg.LINKDIE i + 0x800 + n * 0x4
def Rg.FLOW_DISC_CTX (i : Nat) : Nat := Pg.FLOWTAB i + 0x040
def Rg.FLOW_DISC_EPOCH (i : Nat) : Nat := Pg.FLOWTAB i + 0x044
def Rg.FLOW_DISC_STEP (i : Nat) : Nat := Pg.FLOWTAB i + 0x048
def Rg.FLOW_DISC_DUP (i : Nat) : Nat := Pg.FLOWTAB i + 0x04C
def Rg.FLOW_DISC_GAP (i : Nat) : Nat := Pg.FLOWTAB i + 0x050
def Rg.FLOW_TIMEOUTS (i : Nat) : Nat := Pg.FLOWTAB i + 0x054
def Rg.FLOW_CTXk_W0 (i : Nat) (n : Nat) : Nat := Pg.FLOWTAB i + 0x100 + n * 0x20
def Rg.FLOW_CTXk_W1 (i : Nat) (n : Nat) : Nat := Pg.FLOWTAB i + 0x104 + n * 0x20
def Rg.FLOW_CTXk_W2 (i : Nat) (n : Nat) : Nat := Pg.FLOWTAB i + 0x108 + n * 0x20
def Rg.FLOW_CTXk_W3 (i : Nat) (n : Nat) : Nat := Pg.FLOWTAB i + 0x10C + n * 0x20
def Rg.FLOW_CTXk_W4 (i : Nat) (n : Nat) : Nat := Pg.FLOWTAB i + 0x110 + n * 0x20
def Rg.FLOW_CTXk_W5 (i : Nat) (n : Nat) : Nat := Pg.FLOWTAB i + 0x114 + n * 0x20
def Rg.FLOW_CTXk_W6 (i : Nat) (n : Nat) : Nat := Pg.FLOWTAB i + 0x118 + n * 0x20
def Rg.FLOW_CTXk_W7 (i : Nat) (n : Nat) : Nat := Pg.FLOWTAB i + 0x11C + n * 0x20
def Rg.CUT_CTL (i : Nat) : Nat := Pg.CUTLIST i + 0x040
def Rg.CUT_STAT (i : Nat) : Nat := Pg.CUTLIST i + 0x044
def Rg.CUT_IMG_LO (i : Nat) : Nat := Pg.CUTLIST i + 0x048
def Rg.CUT_IMG_HI (i : Nat) : Nat := Pg.CUTLIST i + 0x04C
def Rg.CUT_MARK_LO (i : Nat) : Nat := Pg.CUTLIST i + 0x050
def Rg.CUT_MARK_HI (i : Nat) : Nat := Pg.CUTLIST i + 0x054
def Rg.CUT_ACT_ID (i : Nat) : Nat := Pg.CUTLIST i + 0x058
def Rg.CUT_PEND_ID (i : Nat) : Nat := Pg.CUTLIST i + 0x05C
def Rg.CUT_ENTn (i : Nat) (n : Nat) : Nat := Pg.CUTLIST i + 0x800 + n * 0x4
def Rg.SEAL_CFG : Nat := Pg.SEALU + 0x040
def Rg.SEAL_DECL : Nat := Pg.SEALU + 0x044
def Rg.SEAL_TO : Nat := Pg.SEALU + 0x048
def Rg.SEAL_STAT : Nat := Pg.SEALU + 0x04C
def Rg.SEAL_TOK_CAUSE : Nat := Pg.SEALU + 0x050
def Rg.SEAL_DEC_CAUSE : Nat := Pg.SEALU + 0x054
def Rg.SEAL_DEC_COUNT : Nat := Pg.SEALU + 0x058
def Rg.SEAL_DEC_FIRST : Nat := Pg.SEALU + 0x05C
def Rg.SEAL_DEC_WSUM_LO : Nat := Pg.SEALU + 0x060
def Rg.SEAL_DEC_WSUM_HI : Nat := Pg.SEALU + 0x064
def Rg.SEAL_DEC_STEP_LO : Nat := Pg.SEALU + 0x068
def Rg.SEAL_DEC_STEP_HI : Nat := Pg.SEALU + 0x06C
def Rg.SEAL_WIT_CTRL : Nat := Pg.SEALU + 0x080
def Rg.SEAL_WIT_OPMATCH : Nat := Pg.SEALU + 0x084
def Rg.SEAL_WIT_OPMASK : Nat := Pg.SEALU + 0x088
def Rg.SEAL_WRING_BASE_LO : Nat := Pg.SEALU + 0x090
def Rg.SEAL_WRING_BASE_HI : Nat := Pg.SEALU + 0x094
def Rg.SEAL_WRING_WR : Nat := Pg.SEALU + 0x098
def Rg.SEAL_WRING_RD : Nat := Pg.SEALU + 0x09C
def Rg.SEAL_WIT_LOST : Nat := Pg.SEALU + 0x0A0
def Rg.SEAL_WIT_SUM_LO : Nat := Pg.SEALU + 0x0A8
def Rg.SEAL_WIT_SUM_HI : Nat := Pg.SEALU + 0x0AC
def Rg.SEAL_STEP_CTL : Nat := Pg.SEALU + 0x0C0
def Rg.SEAL_STEP_STAT : Nat := Pg.SEALU + 0x0C4
def Rg.SEAL_STEP_NEXT_LO : Nat := Pg.SEALU + 0x0C8
def Rg.SEAL_STEP_NEXT_HI : Nat := Pg.SEALU + 0x0CC
def Rg.SEAL_STEP_CUR_LO : Nat := Pg.SEALU + 0x0D0
def Rg.SEAL_STEP_CUR_HI : Nat := Pg.SEALU + 0x0D4
def Rg.SEAL_LAST_COMMIT_LO : Nat := Pg.SEALU + 0x0D8
def Rg.SEAL_LAST_COMMIT_HI : Nat := Pg.SEALU + 0x0DC
def Rg.SEAL_OPEN_EPOCH : Nat := Pg.SEALU + 0x0E0
def Rg.SEAL_RES_STEP_LO : Nat := Pg.SEALU + 0x0E8
def Rg.SEAL_RES_STEP_HI : Nat := Pg.SEALU + 0x0EC
def Rg.SEAL_RES_EPOCH : Nat := Pg.SEALU + 0x0F0
def Rg.SEAL_RES_WSUM_LO : Nat := Pg.SEALU + 0x0F4
def Rg.SEAL_RES_WSUM_HI : Nat := Pg.SEALU + 0x0F8
def Rg.GAU_STAT : Nat := Pg.GAUGE + 0x040
def Rg.GAU_NOW_LO : Nat := Pg.GAUGE + 0x048
def Rg.GAU_NOW_HI : Nat := Pg.GAUGE + 0x04C
def Rg.GAU_LOAD_LO : Nat := Pg.GAUGE + 0x050
def Rg.GAU_LOAD_HI : Nat := Pg.GAUGE + 0x054
def Rg.GAU_OFFSET : Nat := Pg.GAUGE + 0x058
def Rg.GAU_HOLD : Nat := Pg.GAUGE + 0x05C
def Rg.GAU_HOLD_COUNT : Nat := Pg.GAUGE + 0x060
def Rg.GAU_MARK_MISS : Nat := Pg.GAUGE + 0x064
def Rg.GAU_DL_LO : Nat := Pg.GAUGE + 0x068
def Rg.GAU_DL_HI : Nat := Pg.GAUGE + 0x06C
def Rg.GAU_DL_STAT : Nat := Pg.GAUGE + 0x070
def Rg.GAU_DL_COUNT : Nat := Pg.GAUGE + 0x074
def Rg.TEL_CTRL : Nat := Pg.TELEM + 0x040
def Rg.TEL_RING_BASE_LO : Nat := Pg.TELEM + 0x048
def Rg.TEL_RING_BASE_HI : Nat := Pg.TELEM + 0x04C
def Rg.TEL_WR : Nat := Pg.TELEM + 0x050
def Rg.TEL_RD : Nat := Pg.TELEM + 0x054
def Rg.TEL_LOST : Nat := Pg.TELEM + 0x058
def Rg.EVC_CTRL : Nat := Pg.EVC + 0x040
def Rg.EVC_RING_BASE_LO : Nat := Pg.EVC + 0x048
def Rg.EVC_RING_BASE_HI : Nat := Pg.EVC + 0x04C
def Rg.EVC_WR : Nat := Pg.EVC + 0x050
def Rg.EVC_RD : Nat := Pg.EVC + 0x054
def Rg.EVC_LOST : Nat := Pg.EVC + 0x058
def Rg.EVC_TOP : Nat := Pg.EVC + 0x05C
def Rg.EVC_SEQ : Nat := Pg.EVC + 0x060
def Rg.EVC_DDROP : Nat := Pg.EVC + 0x064
def Rg.CAB_STAT : Nat := Pg.CABINET + 0x040
def Rg.CAB_IRQ : Nat := Pg.CABINET + 0x044
def Rg.MGP_STAT : Nat := Pg.MGP + 0x040
def Rg.MGP_MAC_LO : Nat := Pg.MGP + 0x044
def Rg.MGP_MAC_HI : Nat := Pg.MGP + 0x048
def Rg.MGP_RX_BASE_LO : Nat := Pg.MGP + 0x050
def Rg.MGP_RX_BASE_HI : Nat := Pg.MGP + 0x054
def Rg.MGP_RX_CTL : Nat := Pg.MGP + 0x058
def Rg.MGP_RX_WR : Nat := Pg.MGP + 0x05C
def Rg.MGP_RX_RD : Nat := Pg.MGP + 0x060
def Rg.MGP_TX_BASE_LO : Nat := Pg.MGP + 0x070
def Rg.MGP_TX_BASE_HI : Nat := Pg.MGP + 0x074
def Rg.MGP_TX_CTL : Nat := Pg.MGP + 0x078
def Rg.MGP_TX_WR : Nat := Pg.MGP + 0x07C
def Rg.MGP_TX_RD : Nat := Pg.MGP + 0x080
def Rg.MGP_CQ_BASE_LO : Nat := Pg.MGP + 0x090
def Rg.MGP_CQ_BASE_HI : Nat := Pg.MGP + 0x094
def Rg.MGP_CQ_CTL : Nat := Pg.MGP + 0x098
def Rg.MGP_CQ_WR : Nat := Pg.MGP + 0x09C
def Rg.MGP_CQ_RD : Nat := Pg.MGP + 0x0A0
def Rg.MGP_DROP : Nat := Pg.MGP + 0x0B0
def Rg.PWR_STAT : Nat := Pg.PWR + 0x040
def Rg.PWR_THR_CTL : Nat := Pg.PWR + 0x044
def Rg.PWR_THR_COUNT : Nat := Pg.PWR + 0x048
def Rg.PWR_THR_TIME : Nat := Pg.PWR + 0x04C
def Rg.PWR_WAKE_EN : Nat := Pg.PWR + 0x050
def Rg.PWR_WAKE_SRC : Nat := Pg.PWR + 0x054
def Rg.PWR_PMB_RETRY : Nat := Pg.PWR + 0x058
def Rg.PWR_REG_FAIL : Nat := Pg.PWR + 0x05C
def Rg.PWR_OPn (n : Nat) : Nat := Pg.PWR + 0x060 + n * 0x4
def Rg.AVS_STAT : Nat := Pg.AVS + 0x040
def Rg.AVS_VMAX : Nat := Pg.AVS + 0x044
def Rg.AVS_RETRY : Nat := Pg.AVS + 0x048
def Rg.PLUMB_STAT : Nat := Pg.PLUMB + 0x040
def Rg.PLUMB_REST_CAUSE : Nat := Pg.PLUMB + 0x044
def Rg.PLUMB_REST_PEND : Nat := Pg.PLUMB + 0x048
def Rg.PLUMB_HB : Nat := Pg.PLUMB + 0x04C
def Rg.PLUMB_HB_LAST : Nat := Pg.PLUMB + 0x050
def Rg.PLUMB_HB_TO : Nat := Pg.PLUMB + 0x054
def Rg.PLUMB_BC_TO : Nat := Pg.PLUMB + 0x058
def Rg.PLUMB_DOM_TO : Nat := Pg.PLUMB + 0x05C
def Rg.PLUMB_DOM_STAT : Nat := Pg.PLUMB + 0x060
def Rg.PLUMB_ESC : Nat := Pg.PLUMB + 0x064
def Rg.PLUMB_VCORE : Nat := Pg.PLUMB + 0x068
def Rg.PLUMB_TJ : Nat := Pg.PLUMB + 0x06C
def Rg.SEC_CMD : Nat := Pg.SEC + 0x040
def Rg.SEC_STAT : Nat := Pg.SEC + 0x044
def Rg.SEC_ARG0 : Nat := Pg.SEC + 0x048
def Rg.SEC_ARG1 : Nat := Pg.SEC + 0x04C
def Rg.SEC_ADDR_LO : Nat := Pg.SEC + 0x050
def Rg.SEC_ADDR_HI : Nat := Pg.SEC + 0x054
def Rg.SEC_LEN : Nat := Pg.SEC + 0x058
def Rg.SEC_DEVICE_IDn (n : Nat) : Nat := Pg.SEC + 0x060 + n * 0x4
def Rg.SEC_PAT_REC_LO : Nat := Pg.SEC + 0x070
def Rg.SEC_PAT_REC_HI : Nat := Pg.SEC + 0x074
def Rg.SEC_PAT_REC_LEN : Nat := Pg.SEC + 0x078
def Rg.FUSE_REV : Nat := Pg.FUSE + 0x040
def Rg.FUSE_KEYS : Nat := Pg.FUSE + 0x044
def Rg.FUSE_DBG_COUNT : Nat := Pg.FUSE + 0x048
def Rg.FUSE_ARBn (n : Nat) : Nat := Pg.FUSE + 0x080 + n * 0x4
def Rg.FUSE_BENCH_OFFn (n : Nat) : Nat := Pg.FUSE + 0x0C0 + n * 0x4
def Rg.BOOT_STAT : Nat := Pg.BOOT + 0x040
def Rg.BOOT_SET : Nat := Pg.BOOT + 0x044
def Rg.BOOT_DIR_SEQ : Nat := Pg.BOOT + 0x048
def Rg.BOOT_XSPI_CTL : Nat := Pg.BOOT + 0x050
def Rg.BOOT_XSPI_ADDR : Nat := Pg.BOOT + 0x054
def Rg.BOOT_XSPI_LEN : Nat := Pg.BOOT + 0x058
def Rg.BOOT_XSPI_MEM_LO : Nat := Pg.BOOT + 0x060
def Rg.BOOT_XSPI_MEM_HI : Nat := Pg.BOOT + 0x064
def Rg.TST_STAT : Nat := Pg.TEST + 0x040
def Rg.TST_FAILS : Nat := Pg.TEST + 0x044
def Rg.TST_PAT_BASE_LO : Nat := Pg.TEST + 0x048
def Rg.TST_PAT_BASE_HI : Nat := Pg.TEST + 0x04C
def Rg.TST_PRESET_SEQ : Nat := Pg.TEST + 0x050
def Rg.DBG_STAT : Nat := Pg.DBG + 0x040
def Rg.DBG_NONCEn (n : Nat) : Nat := Pg.DBG + 0x050 + n * 0x4

/-- Registers of the CHIP page beyond its header. -/
def rowsOfCHIP : List RegRow :=
  [{ off := 0x040 },
   { off := 0x044, w1c := 0x40000000 },
   { off := 0x048, rw := 0xFFFFFFFF },
   { off := 0x04C, rw := 0xFFFFFFFF },
   { off := 0x0C0, rw := 0x7, reset := 0x4 }]

/-- Registers of the BENCH page beyond its header. -/
def rowsOfBENCH : List RegRow :=
  [{ off := 0x200 },
   { off := 0x204 },
   { off := 0x208 },
   { off := 0x20C },
   { off := 0x210 },
   { off := 0x220 },
   { off := 0x224 },
   { off := 0x228 },
   { off := 0x22C },
   { off := 0x240 },
   { off := 0x244 },
   { off := 0x248 },
   { off := 0x24C },
   { off := 0x250 },
   { off := 0x254 },
   { off := 0x258, rw := 0xFFFF7F01 },
   { off := 0x280 },
   { off := 0x284 },
   { off := 0x288 },
   { off := 0x28C },
   { off := 0x290 },
   { off := 0x294 },
   { off := 0x298 },
   { off := 0x400, cnt := 16, stride := 0x20, rw := 0xFFFFFFFF },
   { off := 0x404, cnt := 16, stride := 0x20, rw := 0x8000003F },
   { off := 0x408, cnt := 16, stride := 0x20 },
   { off := 0x40C, cnt := 16, stride := 0x20 },
   { off := 0x410, cnt := 16, stride := 0x20 },
   { off := 0x414, cnt := 16, stride := 0x20 },
   { off := 0x418, cnt := 16, stride := 0x20 },
   { off := 0x41C, cnt := 16, stride := 0x20 }]

/-- Registers of the PLANE page beyond its header. -/
def rowsOfPLANE : List RegRow :=
  [{ off := 0x040 },
   { off := 0x044 },
   { off := 0x048 },
   { off := 0x04C },
   { off := 0x050 },
   { off := 0x054 },
   { off := 0x060 },
   { off := 0x064 },
   { off := 0x068 },
   { off := 0x06C },
   { off := 0x070 },
   { off := 0x074 },
   { off := 0x078 }]

/-- Registers of the SEQ page beyond its header. -/
def rowsOfSEQ : List RegRow :=
  [{ off := 0x040 },
   { off := 0x044 },
   { off := 0x050 },
   { off := 0x054 },
   { off := 0x058 },
   { off := 0x060, rw := 0xFFFFFFFF },
   { off := 0x064, rw := 0xFFFF },
   { off := 0x068, rw := 0x7F7F7F },
   { off := 0x070, cnt := 3, stride := 0x8, rw := 0xFFFFFFFF },
   { off := 0x074, cnt := 3, stride := 0x8, rw := 0xFFFF },
   { off := 0x0A0 },
   { off := 0x0A4, cnt := 7, stride := 0x4, rw := 0xFFFFF },
   { off := 0x0C0, cnt := 16, stride := 0x4, rw := 0xFFFFFFFF },
   { off := 0x100, cnt := 4, stride := 0x4, rw := 0xFFFFF, reset := 0x3E8 },
   { off := 0x110, rw := 0xFFFFF, reset := 0x64 },
   { off := 0x114 },
   { off := 0x120, rw := 0xFFFF, w1c := 0x80000000 },
   { off := 0x124 },
   { off := 0x128 },
   { off := 0x130, rw := 0xFFFFFFFF },
   { off := 0x134, rw := 0xFFFF },
   { off := 0x138, rw := 0x1FFFFF },
   { off := 0x13C, rw := 0x7FFFF },
   { off := 0x400, cnt := 128, stride := 0x4 }]

/-- Registers of the TRAY page beyond its header. -/
def rowsOfTRAY : List RegRow :=
  [{ off := 0x040 },
   { off := 0x044 },
   { off := 0x048 }]

/-- Registers of the HOLD page beyond its header. -/
def rowsOfHOLD : List RegRow :=
  [{ off := 0x040, rw := 0x1 },
   { off := 0x044, rw := 0xFFFFF, reset := 0x3E8 },
   { off := 0x048 },
   { off := 0x04C },
   { off := 0x050 },
   { off := 0x054 },
   { off := 0x058, rw := 0xA000FFFF },
   { off := 0x05C },
   { off := 0x060, rw := 0xFFFFFFFF },
   { off := 0x064, rw := 0xFFFF },
   { off := 0x068, rw := 0xFFFFFFFF },
   { off := 0x06C, rw := 0xFFFFFFFF },
   { off := 0x070, rw := 0xFFFFFFFF },
   { off := 0x074, rw := 0xFFFFFFFF },
   { off := 0x078, rw := 0xFFFFFFFF },
   { off := 0x07C, rw := 0xFFFFFFFF },
   { off := 0x080, cnt := 32, stride := 0x4 }]

/-- Registers of the CLAMPNET page beyond its header. -/
def rowsOfCLAMPNET : List RegRow :=
  [{ off := 0x040 },
   { off := 0x080, cnt := 4, stride := 0x4, rw := 0xFFFFFFFF },
   { off := 0x100, cnt := 32, stride := 0x4 }]

/-- Registers of the JMC page beyond its header. -/
def rowsOfJMC : List RegRow :=
  [{ off := 0x040 },
   { off := 0x044 },
   { off := 0x048 },
   { off := 0x04C },
   { off := 0x050 },
   { off := 0x054, rc := 0x80000000 },
   { off := 0x058, rw := 0xFFFFF, reset := 0x1388 },
   { off := 0x05C },
   { off := 0x060 },
   { off := 0x064 },
   { off := 0x068 },
   { off := 0x06C },
   { off := 0x400, cnt := 64, stride := 0x10, rw := 0xFFFFFFFF },
   { off := 0x404, cnt := 64, stride := 0x10, rw := 0xFFFF },
   { off := 0x408, cnt := 64, stride := 0x10, rw := 0xFFC0FFFF, reset := 0x5000000 }]

/-- Registers of the JSTACK page beyond its header. -/
def rowsOfJSTACK : List RegRow :=
  [{ off := 0x040 },
   { off := 0x044, rw := 0xF, reset := 0x7 },
   { off := 0x048 },
   { off := 0x04C },
   { off := 0x050 },
   { off := 0x054, reset := 0x400000 },
   { off := 0x058 }]

/-- Registers of the SPLINE page beyond its header. -/
def rowsOfSPLINE : List RegRow :=
  [{ off := 0x040, rw := 0x3C000000 },
   { off := 0x044 },
   { off := 0x048 },
   { off := 0x04C, rw := 0xFFFFFF, reset := 0x40000 },
   { off := 0x050 },
   { off := 0x054 },
   { off := 0x060 },
   { off := 0x064 },
   { off := 0x068 },
   { off := 0x06C },
   { off := 0x070 },
   { off := 0x074 },
   { off := 0x078 },
   { off := 0x07C },
   { off := 0x080, rw := 0xFFFFFFFF },
   { off := 0x084, rw := 0xFFFFFFFF },
   { off := 0x088, rw := 0x80000000 },
   { off := 0x0C0, cnt := 8, stride := 0x4 },
   { off := 0x0E0, cnt := 8, stride := 0x4 },
   { off := 0x100 },
   { off := 0x104 },
   { off := 0x108, rw := 0x1FF },
   { off := 0x10C },
   { off := 0x110 },
   { off := 0x200, cnt := 9, stride := 0x4 },
   { off := 0x240, cnt := 9, stride := 0x4 }]

/-- Registers of the LINKDIE page beyond its header. -/
def rowsOfLINKDIE : List RegRow :=
  [{ off := 0x040, rw := 0x3FFF0000 },
   { off := 0x044 },
   { off := 0x048, rw := 0xFFFFFFFF },
   { off := 0x04C },
   { off := 0x080, rw := 0x801F0000, reset := 0x100000 },
   { off := 0x088, rw := 0xFFFFFFFF },
   { off := 0x08C, rw := 0xFFFF },
   { off := 0x090 },
   { off := 0x094, rw := 0xFFFFFFFF },
   { off := 0x098, rc := 0xFFFFFFFF },
   { off := 0x800, cnt := 512, stride := 0x4, rw := 0xFFFFFFFF }]

/-- Registers of the FLOWTAB page beyond its header. -/
def rowsOfFLOWTAB : List RegRow :=
  [{ off := 0x040 },
   { off := 0x044 },
   { off := 0x048 },
   { off := 0x04C },
   { off := 0x050 },
   { off := 0x054 },
   { off := 0x100, cnt := 64, stride := 0x20, rw := 0xFFFFFFFF },
   { off := 0x104, cnt := 64, stride := 0x20, rw := 0xFFFFFFFF },
   { off := 0x108, cnt := 64, stride := 0x20, rw := 0xFFFFFFFF, reset := 0x80000 },
   { off := 0x10C, cnt := 64, stride := 0x20 },
   { off := 0x110, cnt := 64, stride := 0x20 },
   { off := 0x114, cnt := 64, stride := 0x20, rw := 0xFF000000, reset := 0x10000000 },
   { off := 0x118, cnt := 64, stride := 0x20 },
   { off := 0x11C, cnt := 64, stride := 0x20 }]

/-- Registers of the CUTLIST page beyond its header. -/
def rowsOfCUTLIST : List RegRow :=
  [{ off := 0x040 },
   { off := 0x044 },
   { off := 0x048, rw := 0xFFFFFFFF },
   { off := 0x04C, rw := 0xFFFF },
   { off := 0x050, rw := 0xFFFFFFFF },
   { off := 0x054, rw := 0xFFFFFFFF },
   { off := 0x058 },
   { off := 0x05C },
   { off := 0x800, cnt := 512, stride := 0x4 }]

/-- Registers of the SEALU page beyond its header. -/
def rowsOfSEALU : List RegRow :=
  [{ off := 0x040, rw := 0x80000FFF },
   { off := 0x044, rw := 0x7FFF, reset := 0x1 },
   { off := 0x048, rw := 0xFFFFF, reset := 0x7D0 },
   { off := 0x04C },
   { off := 0x050 },
   { off := 0x054 },
   { off := 0x058 },
   { off := 0x05C },
   { off := 0x060 },
   { off := 0x064 },
   { off := 0x068 },
   { off := 0x06C },
   { off := 0x080, rw := 0x1F0107, reset := 0xA0000 },
   { off := 0x084, rw := 0xFFFFFFFF },
   { off := 0x088, rw := 0xFFFFFFFF },
   { off := 0x090, rw := 0xFFFFFFFF },
   { off := 0x094, rw := 0xFFFF },
   { off := 0x098 },
   { off := 0x09C, rw := 0xFFFFFFFF },
   { off := 0x0A0, rc := 0xFFFFFFFF },
   { off := 0x0A8 },
   { off := 0x0AC },
   { off := 0x0C0 },
   { off := 0x0C4 },
   { off := 0x0C8, rw := 0xFFFFFFFF },
   { off := 0x0CC, rw := 0xFFFF },
   { off := 0x0D0 },
   { off := 0x0D4 },
   { off := 0x0D8 },
   { off := 0x0DC },
   { off := 0x0E0 },
   { off := 0x0E8, rw := 0xFFFFFFFF },
   { off := 0x0EC, rw := 0xFFFF },
   { off := 0x0F0, rw := 0xFFFFFFFF },
   { off := 0x0F4, rw := 0xFFFFFFFF },
   { off := 0x0F8, rw := 0xFFFFFFFF }]

/-- Registers of the GAUGE page beyond its header. -/
def rowsOfGAUGE : List RegRow :=
  [{ off := 0x040 },
   { off := 0x048 },
   { off := 0x04C },
   { off := 0x050, rw := 0xFFFFFFFF },
   { off := 0x054, rw := 0xFFFFFFFF },
   { off := 0x058 },
   { off := 0x05C },
   { off := 0x060 },
   { off := 0x064 },
   { off := 0x068, rw := 0xFFFFFFFF },
   { off := 0x06C, rw := 0xFFFFFFFF },
   { off := 0x070 },
   { off := 0x074 }]

/-- Registers of the TELEM page beyond its header. -/
def rowsOfTELEM : List RegRow :=
  [{ off := 0x040, rw := 0x871F0000, reset := 0xA0000 },
   { off := 0x048, rw := 0xFFFFFFFF },
   { off := 0x04C, rw := 0xFFFF },
   { off := 0x050 },
   { off := 0x054, rw := 0xFFFFFFFF },
   { off := 0x058, rc := 0xFFFFFFFF }]

/-- Registers of the EVC page beyond its header. -/
def rowsOfEVC : List RegRow :=
  [{ off := 0x040, rw := 0xDFFF3FFF, w1c := 0x20000000, reset := 0x50010001 },
   { off := 0x048, rw := 0xFFFFFFFF },
   { off := 0x04C, rw := 0xFFFF },
   { off := 0x050 },
   { off := 0x054, rw := 0xFFFFFFFF },
   { off := 0x058, rc := 0xFFFFFFFF },
   { off := 0x05C },
   { off := 0x060 },
   { off := 0x064, rc := 0xFFFFFFFF }]

/-- Registers of the CABINET page beyond its header. -/
def rowsOfCABINET : List RegRow :=
  [{ off := 0x040, reset := 0x80000000 },
   { off := 0x044 }]

/-- Registers of the MGP page beyond its header. -/
def rowsOfMGP : List RegRow :=
  [{ off := 0x040 },
   { off := 0x044 },
   { off := 0x048 },
   { off := 0x050, rw := 0xFFFFFFFF },
   { off := 0x054, rw := 0xFFFF },
   { off := 0x058, rw := 0x801F0000 },
   { off := 0x05C },
   { off := 0x060, rw := 0xFFFFFFFF },
   { off := 0x070, rw := 0xFFFFFFFF },
   { off := 0x074, rw := 0xFFFF },
   { off := 0x078, rw := 0x801F0000 },
   { off := 0x07C, rw := 0xFFFFFFFF },
   { off := 0x080 },
   { off := 0x090, rw := 0xFFFFFFFF },
   { off := 0x094, rw := 0xFFFF },
   { off := 0x098, rw := 0x801F0000 },
   { off := 0x09C },
   { off := 0x0A0, rw := 0xFFFFFFFF },
   { off := 0x0B0, rc := 0xFFFFFFFF }]

/-- Registers of the PWR page beyond its header. -/
def rowsOfPWR : List RegRow :=
  [{ off := 0x040 },
   { off := 0x044, rwl := 0x10FFF, reset := 0x7D0 },
   { off := 0x048 },
   { off := 0x04C },
   { off := 0x050, rw := 0xF, reset := 0xF },
   { off := 0x054 },
   { off := 0x058 },
   { off := 0x05C },
   { off := 0x060, rwl := 0x3FF, reset := 780 },
   { off := 0x064, rwl := 0x3FF, reset := 720 },
   { off := 0x068, rwl := 0x3FF, reset := 670 },
   { off := 0x06C, rwl := 0x3FF, reset := 620 }]

/-- Registers of the AVS page beyond its header. -/
def rowsOfAVS : List RegRow :=
  [{ off := 0x040 },
   { off := 0x044, rwl := 0x3FF, reset := 0x3B6 },
   { off := 0x048 }]

/-- Registers of the PLUMB page beyond its header. -/
def rowsOfPLUMB : List RegRow :=
  [{ off := 0x040, reset := 0x20000000 },
   { off := 0x044 },
   { off := 0x048 },
   { off := 0x04C },
   { off := 0x050 },
   { off := 0x054, rwl := 0x3FF, reset := 0xC8 },
   { off := 0x058, rwl := 0x7F, reset := 0xA },
   { off := 0x05C, rwl := 0x1FF, reset := 0x32 },
   { off := 0x060 },
   { off := 0x064 },
   { off := 0x068 },
   { off := 0x06C }]

/-- Registers of the SEC page beyond its header. -/
def rowsOfSEC : List RegRow :=
  [{ off := 0x040 },
   { off := 0x044, w1c := 0x40000000 },
   { off := 0x048, rw := 0xFFFFFFFF },
   { off := 0x04C, rw := 0xFFFFFFFF },
   { off := 0x050, rw := 0xFFFFFFFF },
   { off := 0x054, rw := 0xFFFF },
   { off := 0x058, rw := 0xFFFFFFFF },
   { off := 0x060, cnt := 4, stride := 0x4 },
   { off := 0x070 },
   { off := 0x074 },
   { off := 0x078 }]

/-- Registers of the FUSE page beyond its header. -/
def rowsOfFUSE : List RegRow :=
  [{ off := 0x040, reset := 0x4101 },
   { off := 0x044 },
   { off := 0x048 },
   { off := 0x080, cnt := 16, stride := 0x4 },
   { off := 0x0C0, cnt := 5, stride := 0x4 }]

/-- Registers of the BOOT page beyond its header. -/
def rowsOfBOOT : List RegRow :=
  [{ off := 0x040 },
   { off := 0x044 },
   { off := 0x048 },
   { off := 0x050, w1c := 0x40000000 },
   { off := 0x054, rw := 0xFFFFFFFF },
   { off := 0x058, rw := 0xFFFFFFFF },
   { off := 0x060, rw := 0xFFFFFFFF },
   { off := 0x064, rw := 0xFFFF }]

/-- Registers of the TEST page beyond its header. -/
def rowsOfTEST : List RegRow :=
  [{ off := 0x040 },
   { off := 0x044 },
   { off := 0x048, rw := 0xFFFFFFFF },
   { off := 0x04C, rw := 0xFFFF },
   { off := 0x050, rw := 0xFFFF }]

/-- Registers of the DBG page beyond its header. -/
def rowsOfDBG : List RegRow :=
  [{ off := 0x040 },
   { off := 0x050, cnt := 4, stride := 0x4 }]

/-- The registers of a page class beyond the page header. -/
def regRows (cls : Nat) : List RegRow :=
  match cls with
  | 0x00 => rowsOfCHIP
  | 0x01 => rowsOfBENCH
  | 0x02 => rowsOfPLANE
  | 0x03 => rowsOfSEQ
  | 0x04 => rowsOfTRAY
  | 0x08 => rowsOfHOLD
  | 0x09 => rowsOfCLAMPNET
  | 0x0C => rowsOfJMC
  | 0x0D => rowsOfJSTACK
  | 0x10 => rowsOfSPLINE
  | 0x11 => rowsOfLINKDIE
  | 0x12 => rowsOfFLOWTAB
  | 0x13 => rowsOfCUTLIST
  | 0x14 => rowsOfSEALU
  | 0x18 => rowsOfGAUGE
  | 0x19 => rowsOfTELEM
  | 0x1C => rowsOfEVC
  | 0x1D => rowsOfCABINET
  | 0x1E => rowsOfMGP
  | 0x20 => rowsOfPWR
  | 0x21 => rowsOfAVS
  | 0x24 => rowsOfPLUMB
  | 0x28 => rowsOfSEC
  | 0x29 => rowsOfFUSE
  | 0x2A => rowsOfBOOT
  | 0x2C => rowsOfTEST
  | 0x2D => rowsOfDBG
  | _ => []

/-- The row that holds offset `off` of a page, if it names one. -/
def rowHit (off : Nat) (r : RegRow) : Bool :=
  decide (r.off ≤ off ∧ (off - r.off) % r.stride = 0 ∧ (off - r.off) / r.stride < r.cnt)

def regRow? (cls off : Nat) : Option RegRow := (regRows cls).find? (rowHit off)

/-- Class, instance and offset of a management offset. -/
def regCls (a : Nat) : Nat := a / 0x100000
def regInst (a : Nat) : Nat := a / 0x1000 % 0x100
def regOff (a : Nat) : Nat := a % 0x1000
def regPage (a : Nat) : Nat := a / 0x1000 * 0x1000

/-- PAGE_CAPS by class (Table 18-1). -/
def pageCaps (cls : Nat) : Nat :=
  match cls with
  | 0x01 | 0x02 | 0x03 | 0x04 => 0x34
  | 0x08 | 0x09 | 0x12 | 0x13 | 0x1D => 0x04
  | 0x0C => 0x0D
  | 0x10 => 0x15
  | 0x11 => 0x0C
  | 0x18 | 0x2C => 0x05
  | 0x20 => 0x07
  | 0x21 | 0x24 => 0x02
  | _ => 0

/-- The link die of instance `i` of a SPLINE, CUTLIST or FLOWTAB page (R446): 0 West, 1 East. -/
def dieOfPage (cls i : Nat) : Nat := if cls = 0x12 then i / 24 else i / 8

/-- FENCE.DOMAIN of a page (Table 18-1). -/
def pageFenceDom (cls i : Nat) : Nat :=
  match cls with
  | 0x01 | 0x02 | 0x03 | 0x04 => 0x2000 + i
  | 0x08 | 0x09 => 0x1000
  | 0x0C => 0x50C0 + i
  | 0x10 => 0x5100 + i
  | 0x11 => 0x3000 + i
  | 0x12 | 0x13 => 0x3000 + dieOfPage cls i
  | 0x18 => 0x5180
  | 0x1D => 0x4000
  | 0x20 => 0x5200
  | 0x2C => 0x52C0
  | _ => 0xFFFF

/-- Reset domain of a page (Table 18-1): the code of R354, 0xFFFF for PORST_N only. -/
def pageResetDom (cls i : Nat) : Nat :=
  match cls with
  | 0x01 | 0x02 | 0x03 | 0x04 => 0x2000 + i
  | 0x08 | 0x09 => 0x1000
  | 0x10 | 0x12 | 0x13 => 0x3000 + dieOfPage cls i
  | 0x11 => 0x3000 + i
  | 0x1D => 0x4000
  | 0x24 => 0xFFFF
  | _ => 0x0000

/-- PAGE_ID of a page (Table 18-2). -/
def pageId (cls i : Nat) : Nat := cls * 0x1000000 + i * 0x1000 + 1

/-- The bits of the page header that the cabinet writes, by offset (R451): RW, W1C and RC masks and the reset value.
PAGE_ID, PAGE_CAPS, FENCE.DOMAIN and HDR_CHECK are constants. -/
def hdrRow (cls i off : Nat) : RegRow :=
  match off with
  | 0x000 => { off := off, reset := pageId cls i }
  | 0x004 => { off := off, reset := pageCaps cls }
  | 0x008 => { off := off, reset := 0x11 }
  | 0x00C => { off := off, rw := 0xF, reset := 0xF }
  | 0x010 => { off := off, reset := pageFenceDom cls i }
  | 0x014 => { off := off, w1c := if cls = 0x01 then 0x30E else 0xE }
  | 0x018 => { off := off, w1c := 0x80000000 }
  | 0x020 => { off := off, rc := 0xFFFFFFFF }
  | 0x024 => { off := off, rc := 0xFFFFFFFF }
  | 0x028 => { off := off, rw := 0xFFFFF, reset := 10000 }
  | 0x02C => { off := off, rw := 0x3FF, reset := 0x3FF }
  | 0x034 => { off := off, rw := 1 }
  | 0x038 => { off := off, rw := 0xFFFFFFFF }
  | 0x03C => { off := off, reset := pageId cls i ^^^ 0xA5A5A5A5 }
  | _ => { off := off }

/-- The row of a management offset: a header register, or a register of the page's class; none for an offset or a page
that is not populated (R447). -/
def rowAt (a : Nat) : Option RegRow :=
  let cls := regCls a
  let off := regOff a
  if regInst a < pageCount cls ∧ off % 4 = 0 then
    if off < 0x40 then some (hdrRow cls (regInst a) off) else regRow? cls off
  else none

/-- The reset value of the register at a management offset; 0 where there is none. -/
def regReset (a : Nat) : Word :=
  match rowAt a with
  | some r => BitVec.ofNat 32 r.reset
  | none => 0

end Sys2Proof.Machine
end

