-- ==== Sys2Proof/Machine/State.lean ====
section
/-! DEFINITION. The state of the block: plain data, every piece of it that the spec names. -/

namespace Sys2Proof.Machine

/-- Chip states (Table 15-3). -/
inductive ChipState where
  | off | boot | calib | ready | run | quiesce | rest | nap | deep | test
  deriving DecidableEq, Repr

/-- Step states (Table 13-1). -/
inductive StepState where
  | none | opened | run | close | sealed | committed | void
  deriving DecidableEq, Repr

/-- An event that a unit has raised and the event controller has not yet emitted (R383, R385): its short gauge, source page, code
and detail words, and the step number and epoch of its moment. -/
structure Ev where
  sg    : Nat
  page  : Nat
  code  : Nat
  w4    : Nat
  w5    : Nat
  stepN : Nat
  epoch : Nat
  deriving DecidableEq, Repr

/-- What ends a run. The spec describes every failure of this block as an effect on its state (a trap, an event, a status, rest),
so no command raises a fault. -/
inductive Fault where
  /-- Raised by no command: a type needs a member. Safe. -/
  | never
  deriving DecidableEq, Repr

/-- What the model declines to run. -/
inductive Refusal where
  /-- A command whose meaning is not written, by its mnemonic; answered by `exec` alone, for an arm without a meaning. Safe. -/
  | notModelled (mnemonic : String)
  deriving DecidableEq, Repr

/-- The block. Registers that hardware counts in, latches or is configured by live in `regs`; a register that shows another field
is computed when it is read (Machine/RegRead.lean). -/
structure State where
  /-- The commands that wait, first in, first out. -/
  pending   : List Instr := []
  /-- The model's own: how many free values have been drawn (log entry 1). -/
  free      : Nat := 0
  /-- Registers by management offset, those that differ from their reset value (R10, R20, R445, chapter 18). -/
  regs      : Sparse Word := []
  /-- High words latched by reads of their low words (R8). -/
  latch     : Sparse Word := []
  /-- What the cabinet's last register read returned. -/
  rdata     : Word := 0
  /-- Local memory by location (R209, R210): the bytes written since the boot's keys were drawn (R213, R219). -/
  mem       : List Host.Cell := []
  /-- Uncorrectable 16-byte cipher blocks of local memory (R216). -/
  memBad    : List Nat := []
  /-- The model's own: the number of the contents that memory has where nothing has been written (log entry 2): a new one with every
  key and with the clear of CALIB (R213, R219). -/
  bootNo    : Nat := 0
  /-- Words of local memory, by address / 4, whose next write arrives with a parity error (R217). -/
  parAt     : List Nat := []
  /-- The scrub of each channel (R222): bursts read in the pass, and one more than the number of the last planned window used. -/
  scrubPos  : Sparse Nat := []
  scrubWin  : Sparse Nat := []
  /-- The stack that is being retired was OFFLINE (R225), and a stack has been retired in the life of the part (R224). -/
  relocOff  : Bool := false
  retired   : Bool := false
  /-- The intake buffers of the link dies, by twice the die, plus one for the multicast buffer: the context and SEQ of each flit in
  them, oldest first (R301). -/
  intake    : Sparse (List (Nat × Nat)) := []
  /-- Physical benches (R81, R138, R145, R147, R153). -/
  benches   : Sparse Bench := []
  /-- The physical bench of each logical bench (R13). -/
  benchMap  : List Nat := []
  /-- Global clamps (R144), and requests that their next update takes (R145). -/
  gclamps   : Sparse (BitVec 16) := []
  gclampReq : List ClampReq := []
  /-- Events raised and not yet emitted (R385). -/
  evq       : List Ev := []
  /-- The chip state and the one before it (Table 15-3). -/
  chip      : ChipState := .off
  chipPrev  : ChipState := .boot
  /-- The benches are frozen by a hold or a fence (R149, R355). -/
  frozen    : Bool := false
  /-- The gauge (R239), and its value at the entry to ARMED or HOLDOVER (R243, R257). -/
  gauge     : DWord := 0
  gauAt     : Nat := 0
  /-- The phase of the gauge against the PLL as it was at the last GMARK, the trim it began and its frame (R244), in 0.1 ns. -/
  phase     : Int := 0
  trim      : Int := 0
  trimAt    : Nat := 0
  /-- The step's state and number (R321), and CAUSE of the member's own token (Table 12-7). -/
  stepSt    : StepState := .none
  stepNo    : Nat := 0
  cause     : Nat := 0
  /-- The committed witness sum (R40). -/
  wsum      : DWord := 0
  /-- What has been written once in the step, and once in the telemetry interval `ivNo` (R229, R300). -/
  marks     : List Nat := []
  ivMarks   : List Nat := []
  ivNo      : Nat := 0
  /-- Children's tokens received, by context (R311). -/
  childToks : List (Nat × Token) := []
  /-- REST was entered from TEST (Table 15-3). -/
  restTest  : Bool := false
  /-- What flow contexts hold beyond their words (chapter 12), and splines beyond their registers (chapters 10, 11). -/
  flows     : Sparse FlowSt := []
  splines   : Sparse SplineSt := []
  /-- The link dies replay a member's capture, and the digests of outgoing flits by context (R47). -/
  replay    : Bool := false
  outDig    : Sparse Digest := []
  /-- Lines of the cabinet's L2, by address / 64 (R372, R402). -/
  l2        : Sparse (List Byte) := []
  /-- The hold, and the late items it waits for (R149). -/
  hold      : HoldPh := .none
  late      : List LateItem := []
  /-- A bench swap in progress (R361). -/
  swap      : Option SwapSt := none
  /-- Benches whose table check runs (R124). -/
  ttabBusy  : List Nat := []
  /-- What the cabinet's last load returned, and whether its last access was an access fault (R212, R371). -/
  cabData   : List Byte := []
  cabFault  : Bool := false
  /-- Fenced domains, those that Plumb fenced, and resets in progress (R355, R358). -/
  fenced    : List Nat := []
  fencedPl  : List Nat := []
  resets    : List ResetSt := []
  /-- Attempts of the chip reset, and whether Plumb holds the chip in reset (R357). -/
  chipTries : Nat := 0
  halted    : Bool := false
  /-- The pin REST_N is low (Table 14-3). -/
  restN     : Bool := true
  /-- BOOTSEL[1:0] as sampled (R400). -/
  bootsel   : Nat := 0
  /-- Controllers by domain code, Plumb's slots among them (R19, R402), the loaded CAB_LOADER and pattern images (R402, R407), and
  owner key hashes (R394). -/
  fw        : Sparse FwUnit := []
  cabImg    : Option ImgInfo := none
  patImg    : Option ImgInfo := none
  ownerKeys : Sparse (List Byte) := []
  /-- Controllers that restart (R347, R392). -/
  restarts  : List Restart := []
  /-- The bench under structural test, and the benches whose last test passed (R364, R379). -/
  testing   : Option Nat := none
  passed    : List Nat := []
  /-- A heartbeat of the cabinet is missing (R346). -/
  hbMiss    : Bool := false
  /-- A wake from NAP or DEEP has begun, by this source (R432). -/
  wakeReq   : Option Nat := none
  /-- Main power has been lost (R436). -/
  powerLost : Bool := false
  /-- The throttle was active in the telemetry interval (Table 15-10). -/
  throttled : Bool := false
  /-- Sources pending in DIRECT mode with their highest severity (R388). -/
  evcPend   : Sparse Nat := []
  /-- The event ring's base has been written (R386), and for each record the gauge of its writing and its severity (R387). -/
  ringSet   : Bool := false
  unread    : List (Nat × Nat) := []
  /-- The last frame sent on the management port (R390), and the bytes last handed to the flash (R419). -/
  mgpTx     : List Byte := []
  xspiOut   : List Byte := []
  /-- Telemetry (R389): counts cleared since the boot, counts at the last selected mark, and the next record's number. -/
  telLost   : Sparse Nat := []
  telBase   : Sparse Nat := []
  telSeq    : Nat := 0
  deriving DecidableEq, Repr

/-- PORST_N asserted (R10, Table 15-3): the chip is OFF, and every register reads its reset value. -/
def State.reset : State := {}

end Sys2Proof.Machine
end

