-- ==== Sys2Proof/Machine/Ops.lean ====
section
/-! DEFINITION. The named operations over the state: sparse data, registers, events and refusals, the step's void causes,
benches and their streams, local memory and trays. -/

namespace Sys2Proof.Machine

/-- What a command answers. -/
abbrev Out := Host.Outcome State Fault Refusal

/-! ### Sparse data -/

def spFind {α : Type} (k : Nat) : List (Nat × α) → Option α
  | [] => none
  | (k', v) :: t => if k = k' then some v else spFind k t

/-- Insert or replace, keeping the keys rising. -/
def spIns {α : Type} (k : Nat) (v : α) : List (Nat × α) → List (Nat × α)
  | [] => [(k, v)]
  | (k', v') :: t =>
    if k < k' then (k, v) :: (k', v') :: t
    else if k = k' then (k, v) :: t
    else (k', v') :: spIns k v t

def spDel {α : Type} (k : Nat) : List (Nat × α) → List (Nat × α)
  | [] => []
  | (k', v') :: t => if k = k' then spDel k t else (k', v') :: spDel k t

/-- What key `k` reads as, `d` being what an unlisted key reads as. -/
def spGet {α : Type} (d : α) (k : Nat) (l : List (Nat × α)) : α := (spFind k l).getD d

/-- Write in canonical form: the value an unlisted key reads as removes the entry. -/
def spPut {α : Type} [DecidableEq α] (d : α) (k : Nat) (v : α) (l : List (Nat × α)) : List (Nat × α) :=
  if v = d then spDel k l else spIns k v l

/-- Keys strictly rising. -/
def spSorted {α : Type} : List (Nat × α) → Bool
  | [] => true
  | [_] => true
  | (k, _) :: (k', v') :: t => decide (k < k') && spSorted ((k', v') :: t)

/-- Sorted insertion into a set of numbers. -/
def setIns (k : Nat) : List Nat → List Nat
  | [] => [k]
  | h :: t => if k < h then k :: h :: t else if k = h then h :: t else h :: setIns k t

/-! ### Bit fields and bytes -/

/-- Field [hi:lo] of a word. -/
def bits {w : Nat} (v : BitVec w) (hi lo : Nat) : Nat := v.toNat / 2 ^ lo % 2 ^ (hi + 1 - lo)

def bit {w : Nat} (v : BitVec w) (k : Nat) : Bool := v.getLsbD k

/-- `v` with field [hi:lo] replaced by `x`. -/
def putBits {w : Nat} (v : BitVec w) (hi lo x : Nat) : BitVec w :=
  let mask := 2 ^ (hi + 1 - lo) - 1
  BitVec.ofNat w (v.toNat - bits v hi lo * 2 ^ lo + (x &&& mask) * 2 ^ lo)

def word (n : Nat) : Word := BitVec.ofNat 32 n
def b2n (b : Bool) : Nat := if b then 1 else 0

/-- The value of little-endian bytes (R5). -/
def leNat : List Byte → Nat
  | [] => 0
  | b :: t => b.toNat + 256 * leNat t

/-- `n` little-endian bytes of a value (R5). -/
def leBytes : Nat → Nat → List Byte
  | 0, _ => []
  | n + 1, v => BitVec.ofNat 8 v :: leBytes n (v / 256)

/-- The values of successive little-endian fields of `w` bytes. -/
def chunks (w : Nat) (n : Nat) (bs : List Byte) : List Nat :=
  (List.range n).map fun i => leNat ((bs.drop (i * w)).take w)

/-! ### Registers -/

/-- What the register at management offset `a` holds. -/
def rg (s : State) (a : Nat) : Word := (spFind a s.regs).getD (regReset a)

/-- Hardware's own write of a whole register. -/
def wr (a : Nat) (v : Word) (s : State) : State := { s with regs := spPut (regReset a) a v s.regs }

/-- Hardware's own write of field [hi:lo]. -/
def wrF (a hi lo x : Nat) (s : State) : State := wr a (putBits (rg s a) hi lo x) s

/-- A counter that saturates at 0xFFFF_FFFF goes up by `k`. -/
def satAdd (a k : Nat) (s : State) : State := wr a (word (min 0xFFFFFFFF ((rg s a).toNat + k))) s

/-- A free-running counter goes up by one. -/
def wrapInc (a : Nat) (s : State) : State := wr a (rg s a + 1) s

/-- A 64-bit pair (R8), low word at `a`. -/
def rg64 (s : State) (a : Nat) : DWord := (rg s (a + 4)) ++ (rg s a)
def wr64 (a : Nat) (v : DWord) (s : State) : State := wr (a + 4) (v.extractLsb' 32 32) (wr a (v.extractLsb' 0 32) s)

/-- A 48-bit counter in a pair goes up by `k`, saturating at 2^48 − 1. -/
def satAdd48 (a k : Nat) (s : State) : State := wr64 a (BitVec.ofNat 64 (min (2 ^ 48 - 1) ((rg64 s a).toNat + k))) s

/-- Registers back to their reset values. -/
def clearRegs (as : List Nat) (s : State) : State := as.foldl (fun s a => wr a (regReset a) s) s

/-! ### Events (R376, R383 to R385, R453, R465) -/

/-- Severity of an event code (Table 18-21). -/
def evSev (c : Nat) : Nat :=
  if [0x003, 0x020, 0x021, 0x022, 0x023, 0x205, 0x20B, 0x30C, 0x320, 0x705, 0x801].contains c then 0
  else if [0x001, 0x002, 0x005, 0x010, 0x012, 0x201, 0x204, 0x206, 0x301, 0x307, 0x30D, 0x312, 0x316, 0x321, 0x401,
    0x403, 0x501, 0x504, 0x507, 0x601, 0x602, 0x603, 0x605, 0x703, 0x704, 0x802].contains c then 1
  else if [0x011, 0x025, 0x203, 0x207, 0x208, 0x209, 0x303, 0x308, 0x30A, 0x30B, 0x313, 0x402, 0x405, 0x406, 0x407,
    0x503, 0x508, 0x604, 0x606, 0x60A, 0x706, 0x707, 0x708, 0x901].contains c then 2
  else if [0x305, 0x404, 0x500, 0x505, 0x506, 0x509, 0x50A, 0x50C, 0x50D, 0x609].contains c then 4
  else 3

/-- The HEALTH bits an event sets (R453). -/
def evHealth (c : Nat) : Nat :=
  if [0x202, 0x203, 0x20C].contains c then 4
  else if [0x004, 0x20A, 0x310, 0x531, 0x532, 0x533].contains c then 8
  else 0

/-- The low 32 bits of the gauge, as events carry it. -/
def shortGauge (s : State) : Nat := s.gauge.toNat % 2 ^ 32

/-- The first event of severity 3 or above is latched, and every such event counted, in the page header (R376). -/
def latchErr (page code w4 : Nat) (s : State) : State :=
  if evSev code < 3 then s
  else
    let s := satAdd (Rg.ERR_COUNT page) 1 s
    if bit (rg s (Rg.ERR_FIRST page)) 31 then s
    else wr (Rg.ERR_FIRST page) (word (0x80000000 + code * 0x10000 + w4 % 0x10000))
      (wr (Rg.ERR_FIRST_GAUGE page) (word (shortGauge s)) s)

/-- A unit raises event `code` on its page, with detail words 4 and 5. -/
def raiseEv (page code w4 w5 : Nat) (s : State) : State :=
  let s := latchErr page code w4 s
  let s := if evHealth code = 0 then s
    else wr (Rg.HEALTH page) (rg s (Rg.HEALTH page) ||| word (evHealth code)) s
  if bit (rg s (Rg.EVENT_EN page)) (code / 256) then
    { s with evq := s.evq ++ [{ sg := shortGauge s, page := page, code := code, w4 := w4 % 2 ^ 32, w5 := w5 % 2 ^ 32,
                                stepN := s.stepNo, epoch := (rg s (Rg.LKD_EPOCH 0)).toNat % 2 ^ 16 }] }
  else s

/-- Refusal reasons (Table 15-2). -/
def rsState : Nat := 1
def rsValue : Nat := 2
def rsLocked : Nat := 3
def rsWidth : Nat := 4
def rsPlumb : Nat := 5
def rsBusy : Nat := 6
def rsUnpop : Nat := 7

/-- A refusal (R377): REFUSED of the page, and EV-0x901. -/
def refuse (page off reason v : Nat) (s : State) : State :=
  let r := Rg.REFUSED page
  let s := if bit (rg s r) 31 then wr r (rg s r ||| 0x40000000) s
    else wr r (word (0x80000000 + reason * 0x10000 + off)) s
  raiseEv page 0x901 (reason * 0x10000 + off) v s

/-! ### Chip and step -/

def chipCode : ChipState → Nat
  | .off => 0 | .boot => 1 | .calib => 2 | .ready => 3 | .run => 4 | .quiesce => 5 | .rest => 6 | .nap => 7
  | .deep => 8 | .test => 9

/-- A change of chip state (R378). -/
def setChip (c : ChipState) (s : State) : State :=
  if s.chip = c then s
  else raiseEv Pg.CHIP 0x001 (chipCode s.chip) (chipCode c) { s with chip := c, chipPrev := s.chip }

/-- A block's state (Table 15-4), from its page. -/
def blkState (s : State) (page : Nat) : Nat := bits (rg s (Rg.STATE page)) 3 0

/-- A change of a block's state (R379). A bench that leaves TEST drops an armed injection (R103). -/
def setBlk (page c : Nat) (s : State) : State :=
  let old := blkState s page
  if old = c then s
  else
    let s := if regCls page = 1 ∧ old = 5 then wrF (Rg.BENCH_TRY_INJ (regInst page)) 31 31 0 s else s
    raiseEv page 0x003 old c (wr (Rg.STATE page) (word (old * 16 + c)) s)

/-- A step is OPEN, RUN or CLOSE. -/
def stepLive (s : State) : Bool := s.stepSt = .opened || s.stepSt = .run || s.stepSt = .close

/-- A cause of Table 12-7 arises on the member: its seal token becomes void. -/
def voidBit (k : Nat) (s : State) : State :=
  if stepLive s then { s with cause := s.cause ||| 2 ^ k } else s

/-- The next free value (log entry 1). -/
def takeFree (s : State) : DWord × State := (Config.freeWord s.free, { s with free := s.free + 1 })

/-- A value of `k` bits that the spec leaves open. -/
def freeBits (k : Nat) (s : State) : Nat × State :=
  let f := takeFree s
  (f.1.toNat % 2 ^ k, f.2)

/-- The gauge has reached at least `g`. -/
def gaugeTo (g : Nat) (s : State) : State :=
  { s with gauge := BitVec.ofNat 64 (max s.gauge.toNat (min g (2 ^ 64 - 1))) }

/-! ### Benches -/

def bench (s : State) (b : Nat) : Bench := spGet {} b s.benches
def setBench (b : Nat) (v : Bench) (s : State) : State := { s with benches := spPut {} b v s.benches }
def modBench (b : Nat) (f : Bench → Bench) (s : State) : State := setBench b (f (bench s b)) s

def Bench.str (x : Bench) : Stream → StreamSt
  | .f => x.f
  | .b => x.b
  | .u => x.u

def Bench.setStr (x : Bench) (t : Stream) (v : StreamSt) : Bench :=
  match t with
  | .f => { x with f := v }
  | .b => { x with b := v }
  | .u => { x with u := v }

def str (s : State) (b : Nat) (t : Stream) : StreamSt := (bench s b).str t
def setStr (b : Nat) (t : Stream) (v : StreamSt) (s : State) : State := modBench b (fun x => x.setStr t v) s
def modStr (b : Nat) (t : Stream) (f : StreamSt → StreamSt) (s : State) : State := setStr b t (f (str s b t)) s

def strNo : Stream → Nat
  | .f => 0
  | .b => 1
  | .u => 2
def allStreams : List Stream := [.f, .b, .u]

def strCode : StrState → Nat
  | .stopped => 0 | .armed => 1 | .run => 2 | .wait => 3 | .held => 4 | .done => 5 | .fault => 6

/-- The logical bench that physical bench `b` serves (R13). -/
def logOf (s : State) (b : Nat) : Option Nat := s.benchMap.findIdx? (· = b)
/-- The physical bench of logical bench `l` (R13). -/
def physOf (s : State) (l : Nat) : Option Nat := s.benchMap[l]?
/-- LBENCH of the trap registers; a bench in TEST serves none and records 0. DEDUCED, log entry 8. -/
def lbench (s : State) (b : Nat) : Nat := (logOf s b).getD 0

/-- A physical bench in block state TEST (R104). -/
def inTest (s : State) (b : Nat) : Bool := blkState s (Pg.BENCH b) = 5

/-- A cause arises on bench `b`: it voids the token, unless the bench is in TEST (R104). -/
def benchVoid (b k : Nat) (s : State) : State := if inTest s b then s else voidBit k s

/-- CHIP_NUM_MODE (Table 3-7). -/
def numMode (s : State) : NumMode :=
  let r := rg s Rg.CHIP_NUM_MODE
  { srEn := bit r 2, flushPz := bit r 1, ovfInf := bit r 0 }

/-- Domain `big` is or contains domain `d` (Table 14-5); PORST_N alone resets Plumb, code 0xFFFF. -/
def domHolds (big d : Nat) : Bool :=
  big == d || (big == 0 && d != 0xFFFF) || (big == 0x1000 && d / 0x1000 == 2)
    || (big / 0x1000 == 3 && d / 16 == 0x510 && d % 16 / 8 == big % 0x1000)

/-- Domain `d` is fenced, itself or within a larger one (R355, Table 18-5). -/
def fencedDom (s : State) (d : Nat) : Bool := s.fenced.any (domHolds · d)

/-- Code of the domain of physical bench `b` (R354). -/
def benchDom (b : Nat) : Nat := 0x2000 + b

/-- A domain is fenced: the fence is recorded and EV-0x502 written (R355). -/
def fence (d : Nat) (byPlumb : Bool) (s : State) : State :=
  raiseEv Pg.PLUMB 0x502 d 0 { s with fenced := setIns d s.fenced,
                                      fencedPl := if byPlumb then setIns d s.fencedPl else s.fencedPl }

/-- The fence of a domain, and of every domain in it, is released. -/
def unfence (d : Nat) (s : State) : State :=
  { s with fenced := s.fenced.filter (fun k => !domHolds d k), fencedPl := s.fencedPl.filter (fun k => !domHolds d k) }

/-- The part takes management accesses: PORST_N is released, the part is not in DEEP (Table 15-3, R433), main power has not
been lost (R436), and Plumb does not hold the chip in reset (R357). -/
def manageable (s : State) : Bool := s.chip != .off && s.chip != .deep && !s.powerLost && !s.halted

/-- A write that acts on its page at once: refused while the page's domain is fenced (R355), and after a lockstep mismatch
of Plumb (R348). -/
def pageCmd (page off : Nat) (v : Word) (f : State → State) (s : State) : State :=
  if !manageable s then s
  else if fencedDom s (pageFenceDom (regCls page) (regInst page)) || !bit (rg s Rg.PLUMB_STAT) 29 then
    refuse page off rsState v.toNat s
  else f s

/-! ### Local memory (chapter 9) -/

/-- End of the local space (R209, R224). -/
def memEnd (s : State) : Nat :=
  if bit (rg s (Rg.JMC_STAT 0)) 31 then 0x005400000000 else 0x006000000000
def carveEnd : Nat := 0x000200000000

/-- Addresses closed to benches and remote operations (R212). -/
def memClosed (s : State) (a : Nat) : Bool := decide (a < carveEnd ∨ memEnd s ≤ a)

/-- A valid entry of the commit table (R228). -/
structure Region where
  n     : Nat
  base  : Nat
  size  : Nat
  sel   : Bool
  arm   : Bool
  remNew : Bool
  deriving DecidableEq, Repr

/-- JMCs by stack bits of an address (R210). -/
def jmcOf (a : Nat) : Nat := a / 256 % 8

/-- Entry `n` of the commit table of JMC `j`. -/
def regionAt (s : State) (j n : Nat) : Region :=
  let c := rg s (Rg.JMC_GRn_CTL j n)
  { n := n, base := (rg s (Rg.JMC_GRn_BASE_HI j n)).toNat * 2 ^ 32 + (rg s (Rg.JMC_GRn_BASE_LO j n)).toNat,
    size := 2 ^ bits c 27 22, sel := bit c 28, arm := bit c 30, remNew := bit c 29 }

/-- The valid entries of a JMC's table: the listed control registers with VALID set. -/
def regionsOf (s : State) (j : Nat) : List Region :=
  s.regs.filterMap fun e =>
    let off := e.1 - Rg.JMC_GRn_CTL j 0
    if Rg.JMC_GRn_CTL j 0 ≤ e.1 ∧ off < 0x400 ∧ off % 16 = 0 ∧ bit e.2 31 = true then some (regionAt s j (off / 16))
    else none

def Region.has (r : Region) (a : Nat) : Bool := decide (r.base ≤ a ∧ a < r.base + 2 * r.size)
/-- The address lies in the new view, the upper half of the region's addresses (section 9.7). -/
def Region.newView (r : Region) (a : Nat) : Bool := decide (r.base + r.size ≤ a)

def regionOf (s : State) (a : Nat) : Option Region := (regionsOf s (jmcOf a)).find? (·.has a)

/-- The location the JMC uses for address `a` (R228). -/
def memLoc (s : State) (a : Nat) : Nat :=
  match regionOf s a with
  | some r => r.base + ((a - r.base) ^^^ (if r.sel then r.size else 0))
  | none => a

/-- One byte of local memory: what was written, or a free value (R26, R213; log entry 2). -/
def memByte (s : State) (a : Nat) : Byte :=
  (spFind (memLoc s a) s.mem).getD (Config.unwritten s.bootNo (memLoc s a))

def memBytes (s : State) (a n : Nat) : List Byte := (List.range n).map fun i => memByte s (a + i)

/-- `locate` (R224): the stack that serves address `a`, and the location that selects its channel (R210, R228). A granule of the
retired stack lies in relief once JMC_RELOC_PROG counts it as copied (R225). -/
def locate (s : State) (a : Nat) : Nat × Nat :=
  let l := memLoc s a
  let r := jmcOf l
  let st := rg s (Rg.JMC_STAT 0)
  let u := l / 2048
  if bit st 31 && bits st 26 24 == r && decide (u < bits (rg s (Rg.JMC_RELOC_PROG 0)) 27 0) then
    let p := u % 7
    let s2 := if p < r then p else p + 1
    (s2, (0x54000000 + 8 * (u / 7) + s2) * 256 + l % 256)
  else (r, l)

/-- The stack that serves address `a`. -/
def jmcAt (s : State) (a : Nat) : Nat := (locate s a).1

/-- An address of an OFFLINE stack (R223), also while its granules are being relocated (R225). -/
def offline (s : State) (a : Nat) : Bool :=
  let st := bits (rg s (Rg.JST_STAT (jmcAt s a))) 31 29
  st == 4 || (s.relocOff && st == 2)

/-- The 16-byte cipher block that holds `a` is uncorrectable (R216), or its stack is OFFLINE (R223). -/
def memUe (s : State) (a : Nat) : Bool :=
  s.memBad.contains (memLoc s a / 16) || offline s a

/-- One byte written; its cipher block is good again (R216; log entry 9). -/
def memPut (a : Nat) (v : Byte) (s : State) : State :=
  { s with mem := spIns (memLoc s a) v s.mem, memBad := s.memBad.erase (memLoc s a / 16) }

def memPutAll : Nat → List Byte → State → State
  | _, [], s => s
  | a, v :: t, s => memPutAll (a + 1) t (memPut a v s)

/-- Mark the cipher block at `a` uncorrectable (R217, R225). -/
def memSpoil (a : Nat) (s : State) : State := { s with memBad := setIns (memLoc s a / 16) s.memBad }

def rangeAny (a n : Nat) (p : Nat → Bool) : Bool := (List.range n).any fun i => p (a + i)

/-- JMC `j` meets `words` uncorrectable words, the lowest at `x`: counted and latched (R236), and reported by EV-0x202 (R216). -/
def ueNote (j x words : Nat) (s : State) : State :=
  let s := satAdd (Rg.JMC_UE_COUNT j) words s
  let s := if bit (rg s (Rg.JMC_UE_ADDR_HI j)) 31 then s
    else wr (Rg.JMC_UE_ADDR_LO j) (word x) (wr (Rg.JMC_UE_ADDR_HI j) (word (0x80000000 + x / 2 ^ 32)) s)
  raiseEv (Pg.JMC j) 0x202 x (x / 2 ^ 32) s

/-- The uncorrectable blocks that JMC `j` meets in a read of `n` bytes at `a`. -/
def jmcUeReport (a n : Nat) (s : State) (j : Nat) : State :=
  let bad := ((List.range n).map (a + ·)).filter fun x => jmcAt s x = j && memUe s x
  match bad with
  | [] => s
  | x :: _ => ueNote j x (4 * (bad.map fun y => memLoc s y / 16).eraseDups.length) s

/-- A read of `n` bytes at `a`, every JMC reporting the uncorrectable blocks it meets. -/
def memUeSeen (a n : Nat) (s : State) : State := (List.range 8).foldl (jmcUeReport a n) s

/-- No block of memory is uncorrectable, and no stack OFFLINE. -/
def memSound (s : State) : Bool :=
  s.memBad.isEmpty && !s.relocOff && (List.range 8).all fun j => bits (rg s (Rg.JST_STAT j)) 31 29 != 4

/-- A read of `n` bytes at `a`: uncorrectable blocks that it meets are reported, and void the token (R216). -/
def memUeReport (a n : Nat) (s : State) : State :=
  if memSound s || !rangeAny a n (memUe s) then s else voidBit 2 (memUeSeen a n s)

/-- The same of a read for bench `b`, whose uncorrectable data voids no token while it is in TEST (R104, R467). -/
def benchUeReport (b a n : Nat) (s : State) : State :=
  if memSound s || !rangeAny a n (memUe s) then s else benchVoid b 2 (memUeSeen a n s)

/-- A parity error of data network words (R217): counted by the JMC that serves the transfer. -/
def parityAt (j : Nat) (s : State) : State :=
  raiseEv (Pg.JMC j) 0x20C 0 0 (satAdd (Rg.JMC_PAR_COUNT j) 1 s)

/-- The words of `n` bytes at `a` that arrive with a parity error. -/
def parHits (s : State) (a n : Nat) : List Nat := s.parAt.filter fun w => decide (a < 4 * w + 4 ∧ 4 * w < a + n)

/-- A word that arrives at its JMC with a parity error is stored with poison, and is an error of the member (R217, Table 12-7). -/
def parStore (s : State) (w : Nat) : State :=
  parityAt (jmcAt s (4 * w)) (memSpoil (4 * w) (voidBit 2 { s with parAt := s.parAt.erase w }))

/-- Bytes arrive at their JMCs and are written; the words among them that arrive with a parity error are poisoned (R217). -/
def memArrive (a : Nat) (bs : List Byte) (s : State) : State := (parHits s a bs.length).foldl parStore (memPutAll a bs s)

/-! ### Trays -/

/-- Bytes of a tray (Table 1-3: 1.5 MiB). -/
def trayEnd : Nat := 1572864

def trayByte (x : Bench) (a : Nat) : Byte := spGet 0 a x.tray
def trayBytes (x : Bench) (a n : Nat) : List Byte := (List.range n).map fun i => trayByte x (a + i)
/-- One tray byte written; its word is good again (R216). -/
def trayPut (a : Nat) (v : Byte) (x : Bench) : Bench :=
  { x with tray := spPut 0 a v x.tray, trayBad := x.trayBad.erase (a / 4) }

def trayPutAll : Nat → List Byte → Bench → Bench
  | _, [], x => x
  | a, v :: t, x => trayPutAll (a + 1) t (trayPut a v x)

def traySpoil (a : Nat) (x : Bench) : Bench := { x with trayBad := setIns (a / 4) x.trayBad }

/-- A bench reads `n` uncorrectable words of its tray or instruction store, the lowest at `a`: counted, EV-0x202 from the TRAY page,
and the token void (R216, R238). -/
def trayUeNote (b a n : Nat) (s : State) : State :=
  benchVoid b 2 (raiseEv (Pg.TRAY b) 0x202 a 0 (satAdd (Rg.TRAY_ECC_UE b) n s))

/-- Uncorrectable words met by a tray read of the bytes of `ranges`. -/
def trayUeReport (b : Nat) (ranges : List (Nat × Nat)) (s : State) : State :=
  let bad := (bench s b).trayBad.filter fun w => ranges.any fun r => decide (0 < r.2 ∧ r.1 < 4 * w + 4 ∧ 4 * w < r.1 + r.2)
  match bad with
  | [] => s
  | w :: _ => trayUeNote b (4 * w) bad.length s

/-- Element `p` of a packed array of `w`-bit elements at tray address `a` (R57, R112). -/
def trayEl (x : Bench) (a w p : Nat) : Nat :=
  let o := w * p
  let n := (o % 8 + w + 7) / 8
  leNat (trayBytes x (a + o / 8) n) / 2 ^ (o % 8) % 2 ^ w

/-- A packed element written; the other bits of its bytes keep their value (R57). -/
def trayPutEl (a w p v : Nat) (x : Bench) : Bench :=
  let o := w * p
  let n := (o % 8 + w + 7) / 8
  let old := leNat (trayBytes x (a + o / 8) n)
  let cur := old / 2 ^ (o % 8) % 2 ^ w
  trayPutAll (a + o / 8) (leBytes n (old - cur * 2 ^ (o % 8) + v % 2 ^ w * 2 ^ (o % 8))) x

end Sys2Proof.Machine
end

