-- ==== Sys2Proof/Machine/Flags.lean ====
section
/-! DEFINITION. Every trap latch and audit count: numeric traps (R75 to R77), audit channels (R78), execution traps (R173),
the synchronisation faults (R157) and the try-check latch (R101); clamp requests and completion adds (R145, R166). -/

namespace Sys2Proof.Machine

/-! ### Audit channels (R78) -/

/-- The enabled channel of bench `b` that selects `opid`. -/
def auditChan (s : State) (b : Nat) (opid : Word) : Option Nat :=
  (List.range 16).find? fun n => bit (rg s (Rg.BENCH_AUDn_CTL b n)) 31 && rg s (Rg.BENCH_AUDn_OP b n) == opid

/-- UF_DEPTH of the channel that selects `opid`, 0 when none does (Table 3-13). -/
def auditDepth (s : State) (b : Nat) (opid : Word) : Nat :=
  match auditChan s b opid with
  | some n => bits (rg s (Rg.BENCH_AUDn_CTL b n)) 5 0
  | none => 0

/-- Add to the counts of the channel that selects `opid`. -/
def auditAdd (b : Nat) (opid : Word) (sat flush ufl : Nat) (s : State) : State :=
  match auditChan s b opid with
  | some n => satAdd48 (Rg.BENCH_AUDn_SAT_LO b n) sat
      (satAdd48 (Rg.BENCH_AUDn_FLUSH_LO b n) flush (satAdd48 (Rg.BENCH_AUDn_UFL_LO b n) ufl s))
  | none => s

/-! ### Numeric traps (R75 to R77) -/

/-- UNIT of Table 3-10. -/
def unitArray : Nat := 0
def unitOutfeed : Nat := 1
def unitPlane : Nat := 2

/-- Position of an array or outfeed trap (Table 3-11). -/
def posArray (tile row col : Nat) : Nat := tile % 2 ^ 32 * 2 ^ 32 + row * 256 + col
/-- Position of a plane trap (Table 3-11). -/
def posPlane (lane idx : Nat) : Nat := lane * 2 ^ 48 + idx % 2 ^ 48

/-- One numeric trap: counted; the first of the step is latched and writes its event; the token is void. -/
def numTrap (b : Nat) (opid : Word) (unit cause pos : Nat) (s : State) : State :=
  let s := satAdd (Rg.BENCH_NTRAP_COUNT b) 1 s
  let s := if bit (rg s (Rg.BENCH_NTRAP_CAUSE b)) 31 then s
    else
      let s := wr (Rg.BENCH_NTRAP_OP b) opid s
      let s := wr (Rg.BENCH_NTRAP_CAUSE b) (word (0x80000000 + lbench s b * 256 + unit * 16 + cause)) s
      let s := wr (Rg.BENCH_NTRAP_POS_LO b) (word pos) (wr (Rg.BENCH_NTRAP_POS_HI b) (word (pos / 2 ^ 32)) s)
      raiseEv (Pg.BENCH b) (0x100 + cause) opid.toNat pos s
  benchVoid b 0 s

/-- A numeric event with the op ID that its traps carry (R165), its unit and its position. -/
structure OpEv where
  opid : Word
  ev   : Nev
  unit : Nat
  pos  : Nat
  deriving DecidableEq, Repr

/-- The numeric events of one instruction, in order; the counts go to the audit channel of its op `opid` (R78). -/
def numEventsOf (b : Nat) (opid : Word) (l : List OpEv) (s : State) : State :=
  let sum (f : Nev → Nat) := l.foldl (fun a e => a + f e.ev) 0
  let s := auditAdd b opid (sum (·.sat)) (sum (·.flush)) (sum (·.ufl)) s
  l.foldl (fun s e => e.ev.causes.foldl (fun s c => numTrap b e.opid e.unit c e.pos s) s) s

/-- The numeric events of one instruction whose traps all carry its own op ID, each with its unit and position. -/
def numEvents (b : Nat) (opid : Word) (l : List (Nev × Nat × Nat)) (s : State) : State :=
  numEventsOf b opid (l.map fun e => { opid := opid, ev := e.1, unit := e.2.1, pos := e.2.2 }) s

/-- The entry of lowest rank, the earliest of them. -/
def firstBy {α : Type} (rank : α → Nat) : List α → Option α
  | [] => none
  | h :: t => match firstBy rank t with
    | some k => if rank k < rank h then some k else some h
    | none => some h

/-- A list with the first in rank of the entries that `p` holds of in front. The bench latches the first trap, and counts the
others in whatever order (R77). -/
def frontBy {α : Type} [BEq α] (rank : α → Nat) (p : α → Bool) (l : List α) : List α :=
  match firstBy rank (l.filter p) with
  | some e => e :: l.erase e
  | none => l

/-! ### Clamp requests and completion (R145, R166) -/

/-- A request reaches a clamp: it takes part in the clamp's next update (R145). -/
def clampAsk (b : Nat) (glob : Bool) (r : ClampReq) (s : State) : State :=
  if glob then { s with gclampReq := s.gclampReq ++ [r] }
  else modBench b (fun x => { x with clampReq := x.clampReq ++ [r] }) s

/-- The completion add of an instruction that enables its completion clamp (R166); a bench in TEST is not connected to the
clamp network, and reaches no global clamp (R104). -/
def completeAdd (b : Nat) (cc : Option CClamp) (s : State) : State :=
  match cc with
  | some c => if c.glob && inTest s b then s else clampAsk b c.glob { n := c.n, src := none, v := 1, op := some c.op } s
  | none => s

/-! ### Execution traps (R173) -/

/-- Cause codes of Table 7-6. -/
def xIllegal : Nat := 1
def xTrayRange : Nat := 2
def xMemRange : Nat := 3
def xDesc : Nat := 4
def xAccMode : Nat := 5
def xStreamKind : Nat := 6
def xScanRange : Nat := 7
def xGrainKey : Nat := 8
def xGrainWrap : Nat := 9
def xShadowMm : Nat := 10
def xUser : Nat := 11
def xDmaErr : Nat := 12

/-- Event of an execution trap (Table 7-6). -/
def xEvent (c : Nat) : Nat :=
  match c with
  | 9 => 0x521
  | 10 => 0x520
  | 11 => 0x548
  | 12 => 0x549
  | _ => 0x53F + c

/-- One execution trap: counted; the first of the step is latched and writes its event, GRAIN_WRAP and SHADOW_MM writing
theirs from the PLANE page by R126 and R132 instead; the token is void. -/
def execTrap (b : Nat) (t : Stream) (pc : Nat) (opid : Word) (c : Nat) (s : State) : State :=
  let s := satAdd (Rg.BENCH_XTRAP_COUNT b) 1 s
  let s := if bit (rg s (Rg.BENCH_XTRAP_CAUSE b)) 31 then s
    else
      let s := wr (Rg.BENCH_XTRAP_OP b) opid s
      let s := wr (Rg.BENCH_XTRAP_CAUSE b) (word (0x80000000 + strNo t * 0x1000000 + lbench s b * 256 + c)) s
      let s := wr (Rg.BENCH_XTRAP_PC b) (word pc) s
      if c = xGrainWrap ∨ c = xShadowMm then s else raiseEv (Pg.BENCH b) (xEvent c) opid.toNat pc s
  benchVoid b 1 s

/-! ### Synchronisation faults (R157) -/

/-- Trap codes of SEQ_SYNC_FAULT (Table 6-7). -/
def syClampTo : Nat := 1
def syUnitTo : Nat := 2
def syHoldTo : Nat := 3
def syClampOvf : Nat := 4
def syLockstep : Nat := 5

/-- Latch the first synchronisation fault of the step. -/
def syncLatch (b code : Nat) (t : Stream) (glob : Bool) (q pc : Nat) (s : State) : State :=
  if bit (rg s (Rg.SEQ_SYNC_FAULT b)) 31 then s
  else wr (Rg.SEQ_SYNC_PC b) (word pc)
    (wr (Rg.SEQ_SYNC_FAULT b)
      (word (0x80000000 + code * 0x10000000 + strNo t * 0x1000000 + b2n glob * 0x10000 + q % 256)) s)

/-- A wait of stream `t`, of its instruction at `pc`, reaches its bound (R157): the stream enters FAULT, the token is void, and
the event is written. -/
def syncFault (b code ev : Nat) (t : Stream) (glob : Bool) (q pc : Nat) (s : State) : State :=
  let s := syncLatch b code t glob q pc s
  let s := modStr b t (fun x => { x with state := .fault, wait := none, stall := none }) s
  benchVoid b 3 (raiseEv (Pg.SEQ b) ev 0 0 s)

end Sys2Proof.Machine
end

