-- ==== Sys2Proof/Machine/Operands.lean ====
section
/-! DEFINITION. The instruction word and its field checks (R163, R164), descriptors (R170 to R172), the element streams of
the array and the plane (R105 to R108), draws (R125, R126), witnesses (R38), and the issue of an instruction (R139). -/

namespace Sys2Proof.Machine

/-! ### The instruction word (Table 7-1) -/

/-- The 128 bits of an instruction word. -/
def iwBits (w : IWord) : BitVec 128 :=
  w.opc ++ w.str ++ w.nb ++ w.cq ++ BitVec.ofBool w.g ++ BitVec.ofBool w.ce ++ BitVec.ofBool w.ix ++ w.bc ++ w.mod ++
    w.aux ++ w.d ++ w.imm ++ w.opid

/-- The fields of a 128-bit word. -/
def iwOf (v : BitVec 128) : IWord :=
  { opc := v.extractLsb' 120 8, str := v.extractLsb' 118 2, nb := v.extractLsb' 104 14, cq := v.extractLsb' 96 8,
    g := v.getLsbD 95, ce := v.getLsbD 94, ix := v.getLsbD 93, bc := v.extractLsb' 90 3, mod := v.extractLsb' 80 10,
    aux := v.extractLsb' 64 16, d := v.extractLsb' 48 16, imm := v.extractLsb' 32 16, opid := v.extractLsb' 0 32 }

/-- Bits [63:0] as one value: GV of WAITG, the value of QPUSH (Table 7-9). -/
def iwLow (w : IWord) : DWord := w.d ++ w.imm ++ w.opid

/-- The fields that an instruction's field map uses (Tables 7-9 to 7-14): single fields, and the used bits of MOD and
AUX. -/
structure FieldMap where
  cq   : Nat := 0
  g    : Bool := false
  ce   : Bool := false
  ix   : Bool := false
  bc   : Bool := false
  mod  : Nat := 0
  aux  : Nat := 0
  d    : Bool := false
  imm  : Bool := false
  opid : Bool := false

/-- No field that the field map does not use is nonzero, STR names the stream of the window, and a global clamp's number
is within range (R164, R144). -/
def fieldsOk (m : FieldMap) (opc : Nat) (t : Stream) (w : IWord) : Bool :=
  w.opc.toNat == opc && w.str.toNat == strNo t && w.cq.toNat &&& m.cq == w.cq.toNat && (m.g || !w.g) && (m.ce || !w.ce)
    && (m.ix || !w.ix) && (m.bc || w.bc == 0) && w.mod.toNat &&& m.mod == w.mod.toNat
    && w.aux.toNat &&& m.aux == w.aux.toNat && (m.d || w.d == 0) && (m.imm || w.imm == 0) && (m.opid || w.opid == 0)
    && (!w.g || w.cq.toNat < 64)

/-- The completion clamp of the word at `pc` of stream `t`, of an instruction that has one (R166, R144). -/
def ccOf (m : FieldMap) (t : Stream) (pc : Nat) (w : IWord) : Option CClamp :=
  if m.ce && w.ce && (!w.g || w.cq.toNat < 64) then some { glob := w.g, n := w.cq.toNat, op := (t, pc) } else none

/-! ### Descriptors -/

/-- A stream descriptor (Table 7-3). -/
structure SDesc where
  fmt   : Nat := 0
  addr  : Nat := 0
  count : Nat := 0
  own   : Bool := false
  lines : Nat := 0
  idx   : Nat := 0
  rs    : Nat := 0
  cs    : Nat := 0
  saddr : Nat := 0
  param : Nat := 0
  resv  : Bool := false
  slot  : Nat := 0
  deriving DecidableEq, Repr

/-- Number of descriptor slots (R170). -/
def slotEnd : Nat := 49152

/-- The stream descriptor in slot `k`, its addresses moved by QB when the instruction is indirect (R167). -/
def readDesc (x : Bench) (k : Nat) (qb : Nat) : SDesc :=
  let bs := trayBytes x (32 * k) 32
  let w0 := leNat (bs.take 4)
  let w2 := leNat ((bs.drop 8).take 8)
  let w6 := leNat ((bs.drop 24).take 4)
  { fmt := w0 / 2 ^ 24, addr := (w0 % 2 ^ 21 + qb) % 2 ^ 21, count := leNat ((bs.drop 4).take 4),
    own := w2 / 2 ^ 56 % 2 = 1, lines := w2 / 2 ^ 48 % 256, idx := w2 % 2 ^ 48,
    rs := leNat ((bs.drop 16).take 4), cs := leNat ((bs.drop 20).take 4), saddr := (w6 % 2 ^ 21 + qb) % 2 ^ 21,
    param := leNat ((bs.drop 28).take 4),
    resv := w0 / 2 ^ 21 % 8 ≠ 0 || w2 / 2 ^ 57 ≠ 0 || w6 / 2 ^ 21 ≠ 0, slot := k }

/-- Bytes of `n` packed elements (R57). -/
def elemBytes (f n : Nat) : Nat := (fmtWidth f * n + 7) / 8

/-- Bytes of the scale or exponent entries of `n` elements from logical index `idx` on (R171). -/
def scaleBytes (f idx n : Nat) : Nat :=
  let b := fmtBlock f
  if b = 0 ∨ n = 0 then 0 else ((idx + n - 1) / b - idx / b + 1) * (if b = 32 then 1 else 2)

/-- A breach of the alignment or extent rule of R171 for `n` elements. -/
def rangeBad (d : SDesc) (n : Nat) (tile : Bool) : Bool :=
  let b := fmtBlock d.fmt
  let mis := if tile || b == 32 then d.addr % 64 ≠ 0 || (b ≠ 0 && d.saddr % 64 ≠ 0)
    else d.addr % (max 1 (fmtWidth d.fmt / 8)) ≠ 0
  mis || decide (trayEnd < d.addr + elemBytes d.fmt n)
    || (b ≠ 0 && decide (trayEnd < d.saddr + scaleBytes d.fmt d.idx n))

/-- A breach of the field rule of R171. -/
def fieldBad (d : SDesc) (scalar : Bool) : Bool := d.resv || !fmtKnown d.fmt || (!scalar && d.param ≠ 0)

/-- The transfer descriptor in slots `k` and `k + 1`, its memory addresses moved by QB (R167). -/
def readTDesc (x : Bench) (k : Nat) (qb : Nat) : TDesc :=
  let bs := trayBytes x (32 * k) 64
  let at' (o n : Nat) : Nat := leNat ((bs.drop o).take n)
  let w2 := at' 8 4
  { maddr := (at' 0 8 % 2 ^ 48 + qb) % 2 ^ 48, fmt := w2 / 2 ^ 24, taddr := w2 % 2 ^ 21, rowLen := at' 12 4,
    rows := at' 16 4, mstride := at' 20 4, tstride := at' 24 4 % 2 ^ 21, peer := at' 28 4 % 128,
    idx := at' 32 8 % 2 ^ 48, saddr := at' 40 4 % 2 ^ 21, msaddr := (at' 48 8 % 2 ^ 48 + qb) % 2 ^ 48,
    resv := at' 0 8 / 2 ^ 48 ≠ 0 || w2 / 2 ^ 21 % 8 ≠ 0 || at' 24 4 / 2 ^ 21 ≠ 0 || at' 28 4 / 128 ≠ 0
      || at' 32 8 / 2 ^ 48 ≠ 0 || at' 40 4 / 2 ^ 21 ≠ 0 || at' 44 4 ≠ 0 || at' 48 8 / 2 ^ 48 ≠ 0 || at' 56 8 ≠ 0 }

/-! ### Streams of elements -/

/-- One element of an input stream: whether its position is present (R468), its logical index (R107), its encoding, its
FX block exponent, and its decoded value. -/
structure El where
  here : Bool
  idx  : Nat
  bits : Nat
  ex   : Int
  dec  : Dec
  deriving DecidableEq, Repr

/-- Decoding of an encoding with its block exponent or scale (R66, section 3.5, R56); raw words and predicates carry no
value. -/
def decodeEl (f bits : Nat) (ex : Int) : Dec :=
  if fmtFx f then decFx (fxN f) ex (toSigned (fxN f) bits)
  else if fmtMx f then decMx f bits ex.toNat
  else if fmtElem f then decode f bits
  else { cls := .zero, neg := false }

/-- Bytes of a scale (32 elements a block) or an exponent (256). -/
def scaleSize (f : Nat) : Nat := if fmtBlock f = 32 then 1 else 2

/-- Distance from block `k0` to block `k`. Block numbers, of `w` bits, wrap as the indices do (u48, R6): it is the nearer of the
two ways round (DEDUCED, log entry 34). -/
def blockDist (w k0 k : Nat) : Int := toSigned w (k + (2 ^ w - k0))

/-- Tray address of the scale or exponent of the block that holds logical index `i` (R171). -/
def scaleAddr (d : SDesc) (i : Nat) : Int :=
  let b := fmtBlock d.fmt
  d.saddr + scaleSize d.fmt * blockDist (if b = 32 then 43 else 40) (d.idx / b) (i / b)

/-- The scale or exponent of the block that holds logical index `i` would lie beyond the tray (R171). -/
def scaleOut (d : SDesc) (i : Nat) : Bool :=
  fmtBlock d.fmt != 0 && decide (scaleAddr d i < 0 ∨ (trayEnd : Int) < scaleAddr d i + scaleSize d.fmt)

/-- Scale or exponent of the block that holds logical index `i` (R171). -/
def scaleAt (x : Bench) (d : SDesc) (i : Nat) : Int :=
  let b := fmtBlock d.fmt
  if b = 0 then zeroE
  else if b = 32 then leNat (trayBytes x (scaleAddr d i).toNat 1)
  else toSigned 16 (leNat (trayBytes x (scaleAddr d i).toNat 2))

/-- The first `n` elements of a tray stream. -/
def trayStream (x : Bench) (d : SDesc) (n : Nat) : List El :=
  (List.range n).map fun p =>
    let i := (d.idx + p) % 2 ^ 48
    let v := trayEl x d.addr (fmtWidth d.fmt) p
    let e := scaleAt x d (d.idx + p)
    { here := true, idx := i, bits := v, ex := e, dec := decodeEl d.fmt v e }

/-- A scalar source: PARAM at every position (R107, R181). -/
def scalarStream (d : SDesc) (n : Nat) : List El :=
  let v := d.param % 2 ^ fmtWidth d.fmt
  (List.range n).map fun p =>
    { here := true, idx := (d.idx + p) % 2 ^ 48, bits := v, ex := zeroE, dec := decodeEl d.fmt v zeroE }

/-- Logical index of row `i` and column `j` of a drain or tap (R107). -/
def rcIndex (k : SrcInfo) (i j : Nat) : Nat := (k.idx + i * k.rs + j * k.cs) % 2 ^ 48

/-- The stream of an outfeed entry (R468). -/
def entryStream (e : OfEntry) : List El :=
  (List.range e.data.length).map fun p =>
    let v := e.data.getD p (0, zeroE)
    { here := if e.prod then p < e.rows else p % 128 < e.rows,
      idx := if e.prod then (e.info.idx + p) % 2 ^ 48 else rcIndex e.info (p % 128) (p / 128),
      bits := v.1, ex := v.2, dec := decodeEl e.info.fmt v.1 v.2 }

/-- The stream of an FX64 or FP32 tap (R179). -/
def tapStream (t : Tap) : List El :=
  (List.range t.data.length).map fun p =>
    let v := t.data.getD p (0, zeroE)
    { here := true, idx := rcIndex t.info (p % 128) (p / 128), bits := v.1, ex := v.2,
      dec := decodeEl t.info.fmt v.1 v.2 }

/-! ### Grain (R125, R126) -/

def rotl (v : DWord) (k : Nat) : DWord := v.rotateLeft k

/-- The draw G of R125. -/
def grain (seed : DWord) (strv : Word) (idx d : Nat) : DWord :=
  let gr : List Nat := [17, 43, 29, 5, 59, 37, 11, 23, 47, 31]
  let x0 : DWord := BitVec.ofNat 64 (d % 2 ^ 16 * 2 ^ 48 + idx % 2 ^ 48)
  let c0 : DWord := strv ++ (strv ^^^ (0x9E3779B9 : Word))
  let r := (List.range 10).foldl (fun (a, b, c) r =>
    let a := a + b + 0xBB67AE8584CAA73B * BitVec.ofNat 64 (r + 1)
    let c := rotl (c ^^^ a) (gr.getD r 0)
    let b := rotl (b + c) (gr.getD (9 - r) 0) ^^^ a
    (a, b, c)) (x0, seed, c0)
  r.2.1 + rotl r.2.2 32

/-- Draw number and key of an instruction: NEXT takes the context's counter, otherwise IMM (R126, R181). -/
def drawsOf (t : StreamSt) (rnd : Rnd) (next : Bool) (imm : Nat) : Draws :=
  { rnd := rnd, keyOk := t.keyOk, seed := t.seed, strv := t.strv, d := if next then t.cnt.toNat else imm }

/-- The 64 bits of the draw at index `i`; 0 without a key (R126, R181). -/
def draw64 (d : Draws) (i : Nat) : Nat := if d.keyOk then (grain d.seed d.strv i d.d).toNat else 0

/-- r of R68 at index `i`: 0 unless the instruction rounds with SR. -/
def drawR (d : Draws) (i : Nat) : Nat := if d.rnd = .sr then draw64 d i % 2 ^ 32 else 0

/-- The end of an instruction with NEXT = 1: the counter goes up, or GRAIN_WRAP is raised at its limit (R126); an instruction
that has raised GRAIN_KEY, the lower code, raises no second trap (R173). -/
def nextDraw (b : Nat) (t : Stream) (pc : Nat) (opid : Word) (next keyTrap : Bool) (s : State) : State :=
  if next = false then s
  else if (str s b t).cnt = 0xFFFF then
    if keyTrap then s
    else execTrap b t pc opid xGrainWrap
      (wr (Rg.PLANE_GRAIN_STAT b) (rg s (Rg.PLANE_GRAIN_STAT b) ||| 0x80000) (raiseEv (Pg.PLANE b) 0x521 opid.toNat pc s))
  else modStr b t (fun x => { x with cnt := x.cnt + 1 }) s

/-! ### Witnesses (R38) -/

/-- wmix of R38. -/
def wmix (idx bits fmt : Nat) : DWord :=
  let x0 : DWord := BitVec.ofNat 64 (fmt * 2 ^ 48 + idx % 2 ^ 48) + 0x9E3779B97F4A7C15
  let y0 : DWord := BitVec.ofNat 64 bits ^^^ 0xD6E8FEB86659FD93
  let r := [13, 29, 41, 7, 53, 23].foldl (fun (x, y) k =>
    let x := x + y
    let y := rotl y k ^^^ x
    (rotl x 32, y)) (x0, y0)
  r.1 + r.2

/-- The witness of elements (index and encoding) with the block scales (block and encoding) of a block format (R38). -/
def witness (fmt : Nat) (els scales : List (Nat × Nat)) : DWord :=
  let w := els.foldl (fun w e => w + wmix e.1 e.2 fmt) 0
  scales.foldl (fun w e => w + wmix (2 ^ 47 + e.1) e.2 (fmtScale fmt)) w

/-- The block scales of a list of elements, each block once (R38). -/
def blockScales (fmt : Nat) (els : List (Nat × Int)) : List (Nat × Nat) :=
  let b := fmtBlock fmt
  if b = 0 then []
  else (els.foldl (fun l e => spIns (e.1 / b) e.2 l) []).map fun e => (e.1, if b = 32 then e.2.toNat else ofSigned 16 e.2)

/-- The witness of a stream's present elements. -/
def streamWitness (fmt : Nat) (els : List El) : DWord :=
  let l := els.filter (·.here)
  witness fmt (l.map fun e => (e.idx, e.bits)) (blockScales fmt (l.map fun e => (e.idx, e.ex)))

/-! ### CRC-32 (R384) and the witness ring (R43, R44) -/

def crcBits : Nat → Word → Word
  | 0, c => c
  | n + 1, c => crcBits n (if c.getLsbD 0 then (c >>> 1) ^^^ 0xEDB88320 else c >>> 1)

/-- The CRC-32 of R384 over bytes in address order. -/
def crc32 (bs : List Byte) : Word := ~~~(bs.foldl (fun c b => crcBits 8 (c ^^^ b.setWidth 32)) 0xFFFFFFFF)

/-- A write by a unit that is judged as a cabinet write (R43, R212, Table 9-5) completes OK: inside the space, in no
guarded region while a step is OPEN, RUN or CLOSE, and in no OFFLINE stack. -/
def unitWriteOk (s : State) (a n : Nat) : Bool :=
  decide (a + n ≤ memEnd s) && rangeAny a n (fun x =>
    (stepLive s && (regionOf s x).isSome) || offline s x) == false

/-- A unit's write of `bs` at `a`, and whether it completes OK: a refused one writes nothing, and one that meets a parity error is
poisoned there (R43, R217). -/
def unitStore (a : Nat) (bs : List Byte) (s : State) : Bool × State :=
  if unitWriteOk s a bs.length then ((parHits s a bs.length).isEmpty, memArrive a bs s) else (false, s)

/-- A ring of 2^`log2` entries at `base`: an entry is written when the ring is not full and its write completes OK,
and is otherwise counted as lost (R43). -/
def ringPut (base wrReg rdReg lostReg log2 : Nat) (entry : List Byte) (s : State) : State :=
  let w := (rg s wrReg).toNat
  let full := (rg s wrReg - rg s rdReg).toNat = 2 ^ log2
  let a := base + w % 2 ^ log2 * entry.length
  if full then satAdd lostReg 1 s
  else
    let r := unitStore a entry s
    if r.1 then wrapInc wrReg r.2 else satAdd lostReg 1 r.2

/-- Base address in a pair whose high word holds bits [47:32]. -/
def base48 (s : State) (a : Nat) : Nat := (rg64 s a).toNat % 2 ^ 48

/-- The record of Table 2-5, written to the witness ring while RING_EN is 1. -/
def witRecord (b kind fmt : Nat) (opid : Word) (count : Nat) (wit : DWord) (s : State) : State :=
  if bit (rg s Rg.SEAL_WIT_CTRL) 8 = false then s
  else
    let w1 := bits (rg s (Rg.LKD_MEMBER 0)) 13 0 * 2 ^ 18 + lbench s b * 2 ^ 11 + kind * 2 ^ 8 + fmt
    let ws : List Nat := [opid.toNat, w1, count % 2 ^ 32, count / 2 ^ 32 % 2 ^ 16 * 2 ^ 16 + s.stepNo / 2 ^ 32 % 2 ^ 16,
      s.stepNo % 2 ^ 32, wit.toNat % 2 ^ 32, wit.toNat / 2 ^ 32]
    let bs := ws.flatMap fun w => leBytes 4 w
    ringPut (base48 s Rg.SEAL_WRING_BASE_LO) Rg.SEAL_WRING_WR Rg.SEAL_WRING_RD Rg.SEAL_WIT_LOST
      (bits (rg s Rg.SEAL_WIT_CTRL) 20 16) (bs ++ leBytes 4 (crc32 bs).toNat) s

/-- Witness mode of Table 2-4. -/
def witMode (s : State) : Nat := bits (rg s Rg.SEAL_WIT_CTRL) 2 0

/-- A tensor-writing instruction of bench `b` has written its output: modes 2 and 3 write a record of kind 1. A bench in
TEST writes none (R104; DEDUCED, log entry 8). -/
def tensorRecord (b : Nat) (opid : Word) (fmt count : Nat) (wit : DWord) (s : State) : State :=
  let m := witMode s
  let hit := m = 3 ∨ (m = 2 ∧ (opid ^^^ rg s Rg.SEAL_WIT_OPMATCH) &&& rg s Rg.SEAL_WIT_OPMASK = 0)
  if inTest s b = false ∧ hit then witRecord b 1 fmt opid count wit s else s

/-! ### Issue (R139, R143, R164, R167, R189) -/

/-- Fields of a dovetail entry (Table 6-2), by their lowest bit. -/
def dtArray : Nat := 0
def dtPlane : Nat := 2
def dtDma : Nat := 4

/-- Some entry of the bench's dovetail table grants the field at bit `lo` to stream `t`. -/
def granted (x : Bench) (t : Stream) (lo : Nat) : Bool := x.dt.any fun e => bits e (lo + 1) lo == strNo t

/-- Port P of every bank group that the byte ranges touch is granted to `t` by some entry (R143). -/
def banksGranted (x : Bench) (t : Stream) (ranges : List (Nat × Nat)) : Bool :=
  (List.range 4).all fun g =>
    !(ranges.any fun r => decide (0 < r.2 ∧ r.1 < (g + 1) * 393216 ∧ g * 393216 < r.1 + r.2)) || granted x t (6 + 2 * g)

/-- A pending scoreboard entry overlaps one of the byte ranges (R153). -/
def sbHit (x : Bench) (ranges : List (Nat × Nat)) : Bool :=
  x.tickets.any fun k => match k.sb with
    | some (lo, hi) => ranges.any fun r => decide (0 < r.2 ∧ r.1 ≤ hi ∧ lo < r.1 + r.2)
    | none => false

/-- The benches are frozen: by a hold (R149) or by rest (R350). -/
def isFrozen (s : State) : Bool := s.frozen || s.chip = .rest

/-- Bench `b` can issue: it serves a logical bench and is not frozen, or is in TEST, where no hold freezes it (R104); it is
not fenced (R355, R136), and its sequencers agree. -/
def benchRuns (s : State) (b : Nat) : Bool :=
  !(bench s b).locked && !fencedDom s (benchDom b) && blkState s (Pg.BENCH b) != 4
    && (((logOf s b).isSome && !isFrozen s) || inTest s b)

/-- What the sequencer finds at the program counter of stream `t` of bench `b`: nothing to issue, a block that cannot be
issued from (R467), or the word `w`. -/
inductive Reach where
  | no | bad (c : Nat) | word
  deriving DecidableEq, Repr

def queueWait (x : StreamSt) : Bool :=
  match x.wait with
  | some (.queue _) => x.state = .wait
  | _ => false

def reach (s : State) (b : Nat) (t : Stream) (w : IWord) : Reach :=
  let x := str s b t
  if benchRuns s b = false then .no
  else if x.state ≠ .run ∧ queueWait x = false then .no
  else match x.blocks.find? (·.num = x.pc / 64) with
    | none => .no
    | some k =>
      if k.closed then .bad xMemRange
      else if k.bad.contains (x.pc % 64) then .bad xDmaErr
      else if k.words.getD (x.pc % 64) 0 = iwBits w then .word else .no

/-- A stream reaches an instruction of a block that cannot be issued from: the trap, and FAULT (R467). The four poisoned words of
the instruction are read from the instruction store, and counted and reported as such (R216, R238); their address is the
instruction's in its block (DESIGN CHOICE, log entry 75). -/
def badBlock (b : Nat) (t : Stream) (c : Nat) (s : State) : State :=
  let s := if c = xDmaErr then trayUeNote b (16 * ((str s b t).pc % 64)) 4 s else s
  modStr b t (fun x => { x with state := .fault, stall := none, wait := none }) (execTrap b t (str s b t).pc 0 c s)

/-- The stream has issued the instruction at its program counter. -/
def advance (b : Nat) (t : Stream) (s : State) : State :=
  modStr b t (fun x => { x with pc := x.pc + 1, state := .run, wait := none, stall := none, mark := none, late := 0 }) s

/-- The next instruction of the stream waits: nothing issues, and the wait is marked for its bound (R157). -/
def stallOn (b : Nat) (t : Stream) (k : Option Stall) (s : State) : State := modStr b t (fun x => { x with stall := k }) s

/-- An instruction suppressed by an execution trap: it completes, and its completion add takes place (R166). A suppressed plane
instruction releases neither the outfeed entry nor the tap that it names (R108; DESIGN CHOICE, log entry 71). -/
def suppress (b : Nat) (t : Stream) (pc : Nat) (opid : Word) (c : Nat) (cc : Option CClamp) (s : State) : State :=
  completeAdd b cc (execTrap b t pc opid c s)

/-- How an instruction is judged and what it does: its opcode and field map, the check of its fields' values, its
dovetail field, whether a SHADOW may mark it, the waits before its issue (the state with the wait counted, and what it
waits for), the rules whose breach suppresses it, each with its trap (R173), and its effect on the state after the program
counter has advanced. -/
structure ISpec where
  opc   : Nat
  map   : FieldMap := {}
  legal : Nat → IWord → State → Bool := fun _ _ _ => true
  res   : Option Nat := none
  shad  : IWord → Bool := fun _ => false
  hold  : Nat → Stream → IWord → State → Option (Option Stall × State) := fun _ _ _ _ => none
  rules : Nat → Stream → IWord → State → List (Bool × Nat) := fun _ _ _ _ => []
  run   : Nat → Stream → IWord → Nat → Option ShMark → State → State

/-- The lowest-numbered cause among the rules broken (R173). -/
def lowest : List (Bool × Nat) → Option Nat
  | [] => none
  | (true, c) :: t => match lowest t with
    | some d => some (min c d)
    | none => some c
  | (false, _) :: t => lowest t

/-- The mark that word `w` runs under as `sp`: none for an instruction that is no tensor-writing plane instruction, and
none for a copy whose draw number would come from NEXT (R189). -/
def liveMark (sp : ISpec) (x : StreamSt) (w : IWord) : Option ShMark :=
  match x.mark with
  | some m => if sp.shad w && !(m.copy && w.aux.getLsbD 7) then some m else none
  | none => none

/-- A SHADOW whose mark does not hold raises ILLEGAL, and the instruction it marked runs unshadowed (R189). -/
def dropMark (sp : ISpec) (b : Nat) (t : Stream) (w : IWord) (s : State) : State :=
  let x := str s b t
  if x.mark.isSome ∧ liveMark sp x w = none then execTrap b t (x.pc - 1) 0 xIllegal s else s

/-- The opcodes of Table 7-2. -/
def opcodes : List Nat :=
  [0x00, 0x01, 0x02, 0x03, 0x04, 0x05, 0x06, 0x10, 0x11, 0x12, 0x13, 0x14, 0x20, 0x21, 0x22, 0x23, 0x24, 0x30, 0x31, 0x32, 0x33,
   0x34, 0x35, 0x36, 0x37, 0x38, 0x39, 0x3A, 0x40, 0x41, 0x42, 0x43, 0x44, 0x45, 0x46, 0x50, 0x51]

/-- The word spells another instruction than the one of opcode `opc` (Table 7-2): it is then no word of this one. A word whose
opcode is in no row is ILLEGAL, whichever instruction it is tried as (R164). -/
def otherOp (opc : Nat) (w : IWord) : Bool := w.opc.toNat != opc && opcodes.contains w.opc.toNat

/-- The stream at the program counter issues (R137): the instruction at `p` issued, and the prefetcher requests the block that
holds p + D, D being the window less 128, with any block of the window before it that is neither present nor requested (after a
jump, or when a loop has ended; DEDUCED, log entry 73). A block of a loop that lies wholly within the window keeps its place
while the loop runs. -/
def prefetchReqs (w p : Nat) (x : StreamSt) : List Nat :=
  let last := (max p (x.pc - 1) + 64 * w - 128) / 64
  let kept (k : Nat) : Bool := x.loops.any fun l =>
    let lo := l.start / 64
    let hi := (l.start + l.len) / 64
    decide (hi < lo + w) && (List.range (hi + 1 - lo)).any fun i => lo + i ≠ k && (lo + i) % w == k % w
  ((List.range w).map (x.pc / 64 + ·)).filter fun k =>
    decide (k ≤ last) && !x.blocks.any (·.num = k) && !x.reqs.contains k && !kept k

/-- Window of stream `t` in blocks of 64 instructions (R137). -/
def winBlocks (s : State) (b : Nat) (t : Stream) : Nat :=
  4 * bits (rg s (Rg.SEQ_WIN b)) (8 * strNo t + 6) (8 * strNo t)

/-- The prefetcher's requests at the issue of the instruction at `p` (R137). -/
def prefetch (b : Nat) (t : Stream) (p : Nat) (s : State) : State :=
  let w := winBlocks s b t
  if prefetchReqs w p (str s b t) = [] then s
  else modStr b t (fun x => { x with reqs := x.reqs ++ prefetchReqs w p x }) s

/-- One attempt of stream `t` of bench `b` to issue the word `w` as the instruction `sp`. -/
def issue (sp : ISpec) (b : Nat) (t : Stream) (w : IWord) (s : State) : State :=
  match reach s b t w with
  | .no => s
  | .bad c => badBlock b t c s
  | .word =>
    let pc := (str s b t).pc
    if otherOp sp.opc w then s
    else if fieldsOk sp.map sp.opc t w = false ∨ sp.legal b w s = false then
      prefetch b t pc (suppress b t pc w.opid xIllegal (ccOf sp.map t pc w) (advance b t (dropMark sp b t w s)))
    else if (match sp.res with | some f => granted (bench s b) t f | none => true) = false then stallOn b t (some .grant) s
    else match sp.hold b t w s with
      | some (k, s') => stallOn b t k s'
      | none =>
        match lowest (sp.rules b t w s) with
        | none => prefetch b t pc (sp.run b t w pc (liveMark sp (str s b t) w) (advance b t (dropMark sp b t w s)))
        | some c => prefetch b t pc (suppress b t pc w.opid c (ccOf sp.map t pc w) (advance b t (dropMark sp b t w s)))

/-- QB as an instruction with IX = 1 adds it to tray addresses (R167). -/
def qbTray (s : State) (b : Nat) (t : Stream) (w : IWord) : Nat := if w.ix then (str s b t).qb.toNat % 2 ^ 21 else 0
/-- QB as an instruction with IX = 1 adds it to memory addresses (R167). -/
def qbMem (s : State) (b : Nat) (t : Stream) (w : IWord) : Nat := if w.ix then (str s b t).qb.toNat % 2 ^ 48 else 0

/-- The byte range of descriptor slot `k` (R170). -/
def slotRange (k : Nat) : Nat × Nat := (32 * k, 32)

end Sys2Proof.Machine
end

