-- ==== Sys2Proof/Machine/Command.lean ====
section
/-! DEFINITION. Commands of the CHIP page (R380 to R382), and writes of registers that more than one family uses. -/

namespace Sys2Proof.Machine

/-- The arguments of the command register (Table 15-5). -/
def arg0 (s : State) : Word := rg s Rg.CHIP_CMD_ARG0
def arg1 (s : State) : Word := rg s Rg.CHIP_CMD_ARG1

/-- RESULT (Table 15-5). -/
def resOk : Nat := 0
def resFailed : Nat := 1
def resAbandoned : Nat := 2
def resTimeout : Nat := 3

/-- A command is in progress (R381). -/
def cmdBusy (s : State) : Bool := bit (rg s Rg.COMMAND_STATUS) 31

/-- The command in progress, if any: its opcode. -/
def cmdIs (s : State) (opc : Nat) : Bool := cmdBusy s && bits (rg s Rg.COMMAND_STATUS) 23 16 == opc

/-- The command `opc` in progress completes: DONE and RESULT, and EV-0x002 (R380). -/
def cmdEnd (opc result : Nat) (s : State) : State :=
  if cmdIs s opc then
    let old := rg s Rg.COMMAND_STATUS
    let st := word (0x40000000 + result * 0x1000000 + bits old 23 0)
    raiseEv Pg.CHIP 0x002 (opc * 0x1000000 + bits old 15 0) st.toNat (wr Rg.COMMAND_STATUS st s)
  else s

/-- A COMMAND write (R380 to R382): refused outside the chip states of Table 15-6, while another command is in progress,
or for the reasons of `bad`; otherwise accepted, and `run` is its effect. -/
def command (opc : Nat) (tag : BitVec 16) (states : List ChipState) (bad : State → List (Bool × Nat))
    (run : State → State) (s : State) : State :=
  let v := word (opc * 0x1000000 + tag.toNat)
  pageCmd Pg.CHIP 0x040 v (fun s =>
    match lowest ((!states.contains s.chip, rsState) :: (cmdBusy s, rsBusy) :: bad s) with
    | some r => refuse Pg.CHIP 0x040 r v.toNat s
    | none => run (wr Rg.COMMAND_STATUS (word (0x80000000 + opc * 0x10000 + tag.toNat)) s)) s

/-- The chip states of Table 15-6: R READY, U RUN, Q QUIESCE, S REST, T TEST. -/
def inRUQST : List ChipState := [.ready, .run, .quiesce, .rest, .test]
def inRUQT : List ChipState := [.ready, .run, .quiesce, .test]

/-- A step is OPEN, RUN, CLOSE or SEALED. -/
def stepHeld (s : State) : Bool := stepLive s || s.stepSt = .sealed

/-- RFC 1982 comparison of two values of a `w`-bit counter (R248). -/
inductive Ser where
  | before | equal | after | undecided
  deriving DecidableEq, Repr

def serCmp (w a b : Nat) : Ser :=
  let d := (b % 2 ^ w + 2 ^ w - a % 2 ^ w) % 2 ^ w
  if d = 0 then .equal else if d < 2 ^ (w - 1) then .before else if d > 2 ^ (w - 1) then .after else .undecided

/-- From `now` to the nearest gauge that ends in the short gauge `sg`. -/
def sgDist (sg now : Nat) : Int := toSigned 32 (sg % 2 ^ 32 + 2 ^ 32 - now % 2 ^ 32)

/-- The full gauge nearest `now` that ends in the short gauge `sg` (R248). -/
def sgExpand (sg now : Nat) : Nat := (((now : Int) + sgDist sg now) % 2 ^ 64).toNat

/-- A corrected-error counter goes up, and the page's HEALTH bit CE with it (R453). -/
def ceCount (page reg k : Nat) (s : State) : State :=
  if k = 0 then s
  else wr (Rg.HEALTH page) (rg s (Rg.HEALTH page) ||| 2) (satAdd reg k s)

end Sys2Proof.Machine
end

