-- ==== Sys2Proof/Machine/Tickets.lean ====
section
/-! DEFINITION. Tickets (R187, R226, R229), the bytes a transfer moves (R172, R185), and what a bench sends through a flow
context (R290 to R294, R299, R304). -/

namespace Sys2Proof.Machine

/-! ### Tickets -/

def ticketOf (x : Bench) (n : Nat) : Option Ticket := x.tickets.find? (·.n = n)

/-- The lowest free ticket of a bench. -/
def freeTicket (x : Bench) : Option Nat := (List.range 64).find? fun n => (ticketOf x n).isNone

def modTicket (b n : Nat) (f : Ticket → Ticket) (s : State) : State :=
  modBench b (fun x => { x with tickets := x.tickets.map fun k => if k.n = n then f k else k }) s

/-- A step event that is written once: key `k` is marked until the step's next OPEN. -/
def onceStep (k : Nat) (f : State → State) (s : State) : State :=
  if s.marks.contains k then s else f { s with marks := setIns k s.marks }

/-- An event that is written once in a telemetry interval. -/
def onceInterval (k : Nat) (f : State → State) (s : State) : State :=
  let iv := s.gauge.toNat / 2 ^ 20
  if s.ivNo = iv ∧ s.ivMarks.contains k = true then s
  else f { s with ivNo := iv, ivMarks := if s.ivNo = iv then setIns k s.ivMarks else [k] }

/-- The status of a ticket keeps the first one that is not OK. -/
def TktStatus.worse (a b : TktStatus) : TktStatus := if a = .ok then b else a

/-- Codes of Table 9-4. -/
def statusCode : TktStatus → Nat
  | .ok => 0 | .ue => 1 | .parity => 2 | .closed => 3 | .guard => 4 | .timeout => 5 | .abandon => 6 | .remote => 7
def statusOf (c : Nat) : TktStatus :=
  match c with
  | 0 => .ok | 1 => .ue | 2 => .parity | 3 => .closed | 4 => .guard | 5 => .timeout | 6 => .abandon | _ => .remote

/-- The void cause of a status, beside the execution trap: an uncorrectable or parity error, or a timeout (Table
12-7). -/
def statusVoid (b : Nat) (st : TktStatus) (s : State) : State :=
  match st with
  | .ue | .parity => benchVoid b 2 s
  | .timeout | .abandon => benchVoid b 3 s
  | _ => s

/-- A ticket completes with a status: any other than OK and ABANDON raises DMA_ERR (R226); the instruction completes
(R166) and its ticket is released (R187). -/
def endTicket (b : Nat) (k : Ticket) (st : TktStatus) (s : State) : State :=
  let s := modBench b (fun x => { x with tickets := x.tickets.filter (·.n ≠ k.n) }) s
  let s := if st = .ok ∨ st = .abandon then s else execTrap b k.stream k.pc k.opid xDmaErr s
  completeAdd b k.cc (statusVoid b st s)

/-! ### Pieces of a transfer -/

/-- Granule operations of `n` bytes between other address `a` and tray address `t` (R210); the first argument bounds
their number. -/
def rowPieces : Nat → Nat → Nat → Nat → List (Nat × Nat × Nat)
  | 0, _, _, _ => []
  | f + 1, a, t, n =>
    if n = 0 then []
    else
      let k := min n (256 - a % 256)
      (a, t, k) :: rowPieces f (a + k) (t + k) (n - k)

/-- Elements of a transfer. -/
def xferCount (d : TDesc) : Nat := d.rows * d.rowLen * 8 / fmtWidth d.fmt

/-- Bytes of the scale or exponent entries of a transfer (R172). -/
def xferScale (d : TDesc) : Nat :=
  let b := fmtBlock d.fmt
  if b = 0 then 0 else (xferCount d + b - 1) / b * (if b = 32 then 1 else 2)

/-- Granule operations of the rows, and of the scale or exponent array. -/
def xferRows (d : TDesc) : List (Nat × Nat × Nat) :=
  (List.range d.rows).flatMap fun k => rowPieces (d.rowLen / 128 + 2) (d.maddr + k * d.mstride) (d.taddr + k * d.tstride) d.rowLen
def xferScales (d : TDesc) : List (Nat × Nat × Nat) :=
  rowPieces (xferScale d / 128 + 2) d.msaddr d.saddr (xferScale d)
def xferPieces (d : TDesc) : List (Nat × Nat × Nat) := xferRows d ++ xferScales d

/-- The tray bytes of a transfer, rows in order, and those of its scale array. -/
def xferData (x : Bench) (d : TDesc) : List Byte :=
  (List.range d.rows).flatMap fun k => trayBytes x (d.taddr + k * d.tstride) d.rowLen
def xferScaleData (x : Bench) (d : TDesc) : List Byte := trayBytes x d.saddr (xferScale d)

/-- Element `e` of packed data. -/
def packedEl (w e : Nat) (data : List Byte) : Nat :=
  let o := w * e
  leNat ((data.drop (o / 8)).take ((o % 8 + w + 7) / 8)) / 2 ^ (o % 8) % 2 ^ w

/-- Witness of the elements of packed data that `keep` names, element e at index IDX_BASE + e (Table 7-4, R38), with
the scale entries that `keepS` names. -/
def xferWitness (d : TDesc) (data scales : List Byte) (keep keepS : Nat → Bool) : DWord :=
  let n := xferCount d
  let b := fmtBlock d.fmt
  let w := if b = 32 then 1 else 2
  let els := ((List.range n).filter keep).map fun e => ((d.idx + e) % 2 ^ 48, packedEl (fmtWidth d.fmt) e data)
  let sc := if b = 0 then [] else
    ((List.range (xferScale d / w)).filter keepS).map fun i => (d.idx / b + i, leNat ((scales.drop (w * i)).take w))
  witness d.fmt els sc

/-- The record of a tensor-writing transfer, over all its data. -/
def xferRecord (b : Nat) (opid : Word) (d : TDesc) (data scales : List Byte) (s : State) : State :=
  tensorRecord b opid d.fmt (xferCount d) (xferWitness d data scales (fun _ => true) fun _ => true) s

/-! ### Granule operations -/

/-- A refusal by the guarded-region rules at JMC `j` (R229). -/
def guardRefuse (j a : Nat) (s : State) : State :=
  let first := rg s (Rg.JMC_GUARD_REF j) = 0
  let s := satAdd (Rg.JMC_GUARD_REF j) 1 s
  if first then raiseEv (Pg.JMC j) 0x20D a (a / 2 ^ 32) s else s

/-- One granule read into the tray of bench `b`; uncorrectable words arrive with poison (R216). -/
def loadPiece (b : Nat) (s : State) (p : Nat × Nat × Nat) : State :=
  let bs := memBytes s p.1 p.2.2
  let bad := (List.range p.2.2).filter fun i => memUe s (p.1 + i)
  let s := modBench b (fun x => bad.foldl (fun x i => traySpoil (p.2.1 + i) x) (trayPutAll p.2.1 bs x)) s
  benchUeReport b p.1 p.2.2 s

def loadStatus (s : State) (ps : List (Nat × Nat × Nat)) : TktStatus :=
  if ps.any fun p => rangeAny p.1 p.2.2 (memUe s) then .ue else .ok

/-- A DMAS granule of stream `t` may be written (Table 9-5). -/
def storeOk (s : State) (t : Stream) (a : Nat) : Bool :=
  match regionOf s a with
  | some r => t = .u && r.newView a
  | none => true

/-- One granule stored from the tray of bench `b`, or refused: by Table 9-5, in the rest state (R349), or by an OFFLINE stack
(R223). The destination of an uncorrectable tray word becomes uncorrectable (DEDUCED, log entry 23). -/
def storePiece (b : Nat) (t : Stream) (s : State) (p : Nat × Nat × Nat) : State :=
  if s.chip = .rest ∨ offline s p.1 = true then s
  else if storeOk s t p.1 = false then guardRefuse (jmcAt s p.1) p.1 s
  else
    let x := bench s b
    let s := memArrive p.1 (trayBytes x p.2.1 p.2.2) s
    ((List.range p.2.2).filter fun i => x.trayBad.contains ((p.2.1 + i) / 4)).foldl (fun s i => memSpoil (p.1 + i) s) s

def storeStatus (s : State) (b : Nat) (t : Stream) (ps : List (Nat × Nat × Nat)) : TktStatus :=
  if s.chip = .rest then .closed
  else if ps.any fun p => !storeOk s t p.1 then .guard
  else if ps.any fun p => offline s p.1 || rangeAny p.2.1 p.2.2 (fun a => (bench s b).trayBad.contains (a / 4)) then .ue
  else if ps.any fun p => !(parHits s p.1 p.2.2).isEmpty then .parity
  else .ok

/-- An address of the new view of a guarded region. -/
def inNewView (s : State) (a : Nat) : Bool := match regionOf s a with
  | some r => r.newView a
  | none => false

/-- What a DMAS of stream U adds to the committed witness sum (R40): the elements and scale entries it writes into new
views; with the record of kind 0 in modes 1 to 3 (R41). -/
def commitWitness (b : Nat) (t : Stream) (opid : Word) (d : TDesc) (ps : List (Nat × Nat × Nat)) (data scales : List Byte)
    (s : State) : State :=
  let hit (a : Nat) : Bool := inNewView s a && !offline s a && ps.any fun p => decide (p.1 ≤ a ∧ a < p.1 + p.2.2)
  let addr (e : Nat) : Nat := let o := fmtWidth d.fmt * e / 8
    d.maddr + o / d.rowLen * d.mstride + o % d.rowLen
  let keep (e : Nat) : Bool := hit (addr e)
  let w := if fmtBlock d.fmt = 32 then 1 else 2
  let keepS (i : Nat) : Bool := hit (d.msaddr + w * i)
  let count := ((List.range (xferCount d)).filter keep).length
  if t ≠ .u ∨ inTest s b = true ∨ (ps.any fun p => inNewView s p.1) = false then s
  else
    let wit := xferWitness d data scales keep keepS
    let s := { s with wsum := s.wsum + wit }
    if 1 ≤ witMode s then witRecord b 0 d.fmt opid count wit s else s

/-! ### Flow contexts (R290) -/

/-- Word `k` of context `c`. -/
def ctxReg (c k : Nat) : Nat := Pg.FLOWTAB (c / 64) + 0x100 + 0x20 * (c % 64) + 4 * k
def ctxF (s : State) (c k hi lo : Nat) : Nat := bits (rg s (ctxReg c k)) hi lo
def ctxSet (c k hi lo x : Nat) (s : State) : State := wrF (ctxReg c k) hi lo x s

def ctxValid (s : State) (c : Nat) : Bool := bit (rg s (ctxReg c 0)) 31
def ctxMc (s : State) (c : Nat) : Bool := bit (rg s (ctxReg c 0)) 30
def ctxNoStep (s : State) (c : Nat) : Bool := bit (rg s (ctxReg c 0)) 27
def ctxSealC (s : State) (c : Nat) : Bool := bit (rg s (ctxReg c 0)) 26
def ctxPeer (s : State) (c : Nat) : Nat := ctxF s c 0 25 14
def ctxDst (s : State) (c : Nat) : Nat := ctxF s c 0 13 0
/-- STATE: 0 IDLE, 1 ACTIVE, 2 TIMED_OUT, 3 PEER_FENCED. -/
def ctxState (s : State) (c : Nat) : Nat := ctxF s c 6 31 30
def ctxBase (s : State) (c : Nat) : Nat := ctxF s c 2 15 0 * 2 ^ 32 + (rg s (ctxReg c 1)).toNat
def flowPage (c : Nat) : Nat := Pg.FLOWTAB (c / 64)
/-- The link die of a context: 0 West, 1 East (section 11.4). -/
def dieOf (c : Nat) : Nat := if c < 1536 then 0 else 1

def flow (s : State) (c : Nat) : FlowSt := spGet {} c s.flows
def setFlow (c : Nat) (v : FlowSt) (s : State) : State := { s with flows := spPut {} c v s.flows }
def modFlow (c : Nat) (f : FlowSt → FlowSt) (s : State) : State := setFlow c (f (flow s c)) s

/-- Something is outstanding on the context: its timer is armed (R303). -/
def ctxWaits (s : State) (c : Nat) : Bool := !(flow s c).out.isEmpty || !(flow s c).ops.isEmpty

/-- TIMER takes TIMEOUT while the timer is armed (R303), and reads 0 otherwise. -/
def armTimer (c : Nat) (s : State) : State :=
  ctxSet c 6 15 0 (if ctxWaits s c then ctxF s c 2 31 16 else 0) s

/-! ### Operations sent (R293, R294) -/

def opkCode : OpKind → Nat
  | .write => 1 | .read => 2 | .glue => 3 | .clamp => 4
def opkOf (c : Nat) : Option OpKind :=
  match c with
  | 1 => some .write | 2 => some .read | 3 => some .glue | 4 => some .clamp | _ => none

/-- Bytes of an OP payload (Table 12-3). -/
def opBytes (p : OpPay) : List Byte :=
  leBytes 4 (opkCode p.opk * 2 ^ 28 + p.fmt * 2 ^ 16 + p.tkt % 2 ^ 13) ++ leBytes 4 p.opid ++ leBytes 8 (p.addr % 2 ^ 48)
    ++ leBytes 4 p.rowLen ++ leBytes 4 p.rows ++ leBytes 4 p.mstride ++ leBytes 8 (p.saddr % 2 ^ 48) ++ leBytes 4 p.slen
    ++ leBytes 4 p.clamp ++ List.replicate 212 0

/-- 256-byte payloads, the last one filled with zeros; the first argument bounds their number. -/
def payloads : Nat → List Byte → List (List Byte)
  | 0, _ => []
  | _ + 1, [] => []
  | n + 1, l => (l.take 256 ++ List.replicate (256 - l.length) 0) :: payloads n (l.drop 256)

/-- The flits of an operation: its OP flit, and DATA flits for the rows and the array, LAST on the last one. -/
def opFlits (p : OpPay) (tkt : Nat) (data scales : List Byte) : List TxFlit :=
  let ds := payloads data.length data ++ payloads scales.length scales
  { typ := .op, last := ds.isEmpty, pay := opBytes p, tkt := some tkt } ::
    (List.range ds.length).map fun i =>
      { typ := .data, last := decide (i + 1 = ds.length), pay := ds.getD i [], tkt := some tkt }

/-- An operation is handed to context `c`: its flits wait for their slots, and its report is awaited (R303). -/
def sendOp (c : Nat) (p : OpPay) (tkt : Nat) (data scales : List Byte) (read : Option TDesc) (s : State) : State :=
  let fs := opFlits p tkt data scales
  armTimer c (modFlow c (fun x => { x with
    txq := x.txq ++ fs,
    ops := x.ops ++ [{ tkt := tkt, addr := p.addr, rows := p.rows, mstride := p.mstride, read := read, got := [], left := fs.length }] }) s)

/-- A remote operation ends with a non-OK status: LAST_ERR, and EV-0x315 for the first of the step with the global address
of the failed row (R299). A status does not say which of several rows failed: the row is a free value (log entry 24). -/
def remoteErr (c addr rows mstride : Nat) (st : TktStatus) (s : State) : State :=
  if st = .ok then s
  else
    let s := ctxSet c 7 31 28 (statusCode st) s
    onceStep 0x315 (fun s =>
      let f := takeFree s
      let a := if rows ≤ 1 then addr else (addr + f.1.toNat % rows * mstride) % 2 ^ 48
      let s := if rows ≤ 1 then s else f.2
      raiseEv (flowPage c) 0x315 a (a / 2 ^ 32 + ctxDst s c * 2 ^ 16) s) s

/-- The number of ticket `n` of physical bench `b` (R226): 64 times its logical bench, plus `n`. -/
def tktNo (s : State) (b n : Nat) : Nat := 64 * lbench s b + n

/-- The bench and ticket that a ticket number names. -/
def tktFind (s : State) (no : Nat) : Option (Nat × Ticket) :=
  match physOf s (no / 64) with
  | some b => (ticketOf (bench s b) (no % 64)).map fun k => (b, k)
  | none => none

/-- The ticket of a remote operation completes: with REMOTE or TIMEOUT where its context ends so (R299), and otherwise with the first
status that is not OK, its own or the one reported. -/
def endRemote (c no addr rows mstride : Nat) (st : TktStatus) (s : State) : State :=
  match tktFind s no with
  | some (b, k) =>
    let st := if st = .remote ∨ st = .timeout then st else k.status.worse st
    endTicket b k st (remoteErr c addr rows mstride st s)
  | none => s

/-- A context that cannot send (R304): the status its operations complete with at issue. That of a fenced link die, to which requests are
refused (R355), answers REMOTE: DESIGN CHOICE, log entry 58. -/
def ctxDead (s : State) (c : Nat) : Option TktStatus :=
  if ctxState s c = 2 then some .timeout
  else if ctxState s c ≠ 1 ∨ ctxPeer s c = 0xFFF ∨ fencedDom s (0x3000 + dieOf c) = true then some .remote
  else none

end Sys2Proof.Machine
end

