-- ==== Sys2Proof/Machine/Jordor.lean ====
section
/-! DEFINITION. The memory controllers (chapter 9): glue-up, the commit table, refresh and scrub, retraining, retirement,
and the cabinet's own accesses. -/

namespace Sys2Proof.Machine

/-! ### Glue-up (R233 to R235) -/

/-- Bytes of a glue unit: a 32 B block, or a triple of them for FX48. -/
def glueSize (fmt : Nat) : Nat := if fmt = 0x11 then 96 else 32

/-- FX_OVF on a JMC page voids the token (R64, R233). -/
def jmcOvf (j : Nat) (s : State) : State := voidBit 0 (raiseEv (Pg.JMC j) 0x106 0 0 s)

/-- The exponent entry after an incoming block exponent (R234), and whether the two disagree. -/
def glueExp (em ein : Int) : Int × Bool :=
  if em = zeroE then (ein, false) else if ein = zeroE ∨ ein = em then (em, false) else (em, true)

/-- One glue unit of format `fmt` at address `a`, with the exponent operation of its block on the entry at `ea`: an
uncorrectable unit is not written (R216), one that arrives with a parity error is poisoned (R217); otherwise each element is the
exact sum, saturated at N bits. -/
def glueUnit (fmt a : Nat) (bs : List Byte) (ea : Nat) (ein : Int) (s : State) : State × TktStatus :=
  let n := fxN fmt
  let w := n / 8
  let len := glueSize fmt
  let j := jmcAt s a
  let par := parHits s a len ++ parHits s ea 2
  if !par.isEmpty then (par.foldl parStore s, .parity)
  else if rangeAny a len (memUe s) || rangeAny ea 2 (memUe s) then (memUeReport ea 2 (memUeReport a len s), .ue)
  else
    let cnt := len / w
    let sums := ((chunks w cnt (memBytes s a len)).zip (chunks w cnt bs)).map fun p => toSigned n p.1 + toSigned n p.2
    let sat (v : Int) : Int := if fxSat n false < v ∨ v < -(2 ^ (n - 1) : Int) then fxSat n (decide (v < 0)) else v
    let e := glueExp (toSigned 16 (leNat (memBytes s ea 2))) ein
    let s := memPutAll a (sums.flatMap fun v => leBytes w (ofSigned n (sat v))) s
    let s := memPutAll ea (leBytes 2 (ofSigned 16 e.1)) s
    let s := satAdd (Rg.JMC_GLUE_COUNT j) 1 s
    (if e.2 || sums.any (fun v => sat v ≠ v) then jmcOvf j s else s, .ok)

/-- A remote write may not enter the byte `x` (Table 9-5). -/
def remoteGuarded (s : State) (x : Nat) : Bool :=
  match regionOf s x with
  | some r => !(r.newView x && r.remNew && !r.arm)
  | none => false

/-- The status that R212, Table 9-5 and R223 give a remote write of `n` bytes at `a` (R295). -/
def remoteWriteStatus (s : State) (a n : Nat) : TktStatus :=
  if rangeAny a n (memClosed s) then .closed
  else if rangeAny a n (remoteGuarded s) then .guard
  else if rangeAny a n (offline s) then .ue
  else .ok

/-- The granules of `n` bytes at `a` that a remote write refused as GUARD may not enter, each counted by its own JMC (R229). -/
def remoteRefuse (st : TktStatus) (a n : Nat) (s : State) : State :=
  if st = .guard then
    (rowPieces (n / 128 + 2) a 0 n).foldl (fun s p =>
      if remoteGuarded s p.1 then guardRefuse (jmcAt s p.1) p.1 s else s) s
  else s

/-- GLUE_UP (R233): a glue unit arrives at its JMC. -/
def glueUp (fmt a : Nat) (bs : List Byte) (ea : Nat) (ein : Int) (s : State) : State :=
  let len := glueSize fmt
  if fmtFx fmt = false ∨ bs.length ≠ len ∨ a % 32 ≠ 0 ∨ s.chip = .rest then s
  else
    let st := (remoteWriteStatus s a len).worse (remoteWriteStatus s ea 2)
    if st = .ok then (glueUnit fmt a bs ea ein s).1
    else remoteRefuse (remoteWriteStatus s ea 2) ea 2 (remoteRefuse (remoteWriteStatus s a len) a len s)
def execGlueUp (fmt a : Nat) (bs : List Byte) (ea : Nat) (ein : Int) (s : State) : Out := .next (glueUp fmt a bs ea ein s)

/-! ### The commit table (R228 to R231) -/

/-- The eight mirrored copies of a commit table register take a value (R231). -/
def wrMirror (reg : Nat → Nat) (v : Word) (s : State) : State := (List.range 8).foldl (fun s j => wr (reg j) v s) s

/-- Two address ranges overlap. -/
def overlap (a n b m : Nat) : Bool := decide (a < b + m ∧ b < a + n)

/-- A region of size `2 ^ log2` at `base` that entry `n` may define (R228). -/
def regionFits (s : State) (n base log2 : Nat) : Bool :=
  let len := 2 * 2 ^ log2
  decide (base % len = 0) && decide (carveEnd ≤ base) && decide (base + len ≤ memEnd s)
    && (regionsOf s 0).all fun r => r.n = n || !overlap base len r.base (2 * r.size)

/-- Why a write of JMC_GRn_CTL is refused (R228, R231, Table 9-8). -/
def guardCtlBad (n : Nat) (v : Word) (s : State) : List (Bool × Nat) :=
  let old := rg s (Rg.JMC_GRn_CTL 0 n)
  let base := (rg s (Rg.JMC_GRn_BASE_HI 0 n)).toNat * 2 ^ 32 + (rg s (Rg.JMC_GRn_BASE_LO 0 n)).toNat
  let field := (v ^^^ old) &&& 0x9FC0FFFF != 0
  let log2 := bits v 27 22
  [(bit v 30 != bit old 30 && (s.stepSt = .close || s.stepSt = .sealed), rsState),
   (field && stepLive s, rsState),
   (field && (bit old 30 || bit v 30), rsState),
   (decide (log2 < 20 ∨ 36 < log2), rsValue),
   (bit v 31 && !regionFits s n base log2, rsValue)]

/-- A write of JMC_GRn_CTL, applied to all eight tables (R231). -/
def guardCtlWrite (j n : Nat) (v : Word) (s : State) : State :=
  match lowest (guardCtlBad n v s) with
  | some r => refuse (Pg.JMC j) (0x408 + 16 * n) r v.toNat s
  | none => wrMirror (fun j => Rg.JMC_GRn_CTL j n) (v &&& 0xFFC0FFFF) s

/-- GUARD_REGION_WRITE (R231). -/
def execGuardRegionWrite (j n : Nat) (v : Word) (s : State) : Out :=
  .next (pageCmd (Pg.JMC j) (0x408 + 16 * n) v (guardCtlWrite j n v) s)

/-- Why a write of JMC_GRn_BASE_LO (`low`) or _HI, giving the base `base`, is refused (R231, Table 9-6). -/
def guardBaseBad (n base : Nat) (low : Bool) (s : State) : List (Bool × Nat) :=
  let c := rg s (Rg.JMC_GRn_CTL 0 n)
  let old := (rg s (Rg.JMC_GRn_BASE_HI 0 n)).toNat * 2 ^ 32 + (rg s (Rg.JMC_GRn_BASE_LO 0 n)).toNat
  [(base != old && (stepLive s || bit c 30), rsState),
   (low && decide (base % 2 ^ 32 % (2 * 2 ^ bits c 27 22) ≠ 0), rsValue),
   (bit c 31 && !regionFits s n base (bits c 27 22), rsValue)]

/-- The copies of the commit table agree (R345). -/
def tablesAgree (s : State) : Bool :=
  (List.range 8).all fun j => (List.range 64).all fun n =>
    rg s (Rg.JMC_GRn_CTL j n) == rg s (Rg.JMC_GRn_CTL 0 n)
      && rg s (Rg.JMC_GRn_BASE_LO j n) == rg s (Rg.JMC_GRn_BASE_LO 0 n)
      && rg s (Rg.JMC_GRn_BASE_HI j n) == rg s (Rg.JMC_GRn_BASE_HI 0 n)

/-- The flip of one armed entry: SEL inverted, GEN up by one modulo 2^16, ARM cleared (R230). -/
def flipCtl (v : Word) : Word := putBits (putBits (v ^^^ 0x10000000) 30 30 0) 15 0 (bits v 15 0 + 1)

/-- The commit flip of every armed entry (R230); EV-0x20B gives the number of regions. -/
def commitFlip (s : State) : State :=
  let armed := (regionsOf s 0).filter (·.arm)
  let s := armed.foldl (fun s r => wrMirror (fun j => Rg.JMC_GRn_CTL j r.n) (flipCtl (rg s (Rg.JMC_GRn_CTL 0 r.n))) s) s
  raiseEv (Pg.JMC 0) 0x20B armed.length 0 s

/-! ### Service of requests, refresh and scrub (R211, R220 to R222) -/

/-- Global channel of an address (R210), from its location (R224, R228). -/
def chanOf (s : State) (a : Nat) : Nat :=
  let p := locate s a
  32 * p.1 + (p.2 / 2 ^ 11 % 32 ^^^ p.2 / 2 ^ 21 % 32)

/-- What an access that would occupy its channel in the gauge ticks [t, t + dur) waits for the window that begins at `w`
in every 3,900 gt (R220). -/
def windowWait (w t dur : Nat) : Nat :=
  let m := t % 3900
  let d := (m + 3900 - w % 3900) % 3900
  if d < 260 then 260 - d else if 3900 - d < dur then 3900 - d + 260 else 0

/-- A row whose corrected errors reach three in a scrub pass is queued for repair (R215). -/
def queueRepair (j : Nat) (hit : Bool) (s : State) : State :=
  if hit then
    let r := rg s (Rg.JST_REPAIR j)
    raiseEv (Pg.JMC j) 0x201 0 0 (wr (Rg.JST_REPAIR j) (putBits r 15 0 (min 0xFFFF (bits r 15 0 + 1))) s)
  else s

/-- Temperature of a stack's base die at the last telemetry mark. -/
def stackTemp (s : State) (j : Nat) : Int := toSigned 8 (bits (rg s (Rg.JST_STAT j)) 7 0)

/-- XREF_BEGIN (R221). -/
def xrefBegin (j : Nat) (s : State) : State :=
  if 85 < stackTemp s j ∧ bit (rg s (Rg.JST_STAT j)) 16 = false then
    raiseEv (Pg.JSTACK j) 0x204 0 0 (wrF (Rg.JST_STAT j) 16 16 1 s)
  else s
def execXrefBegin (j : Nat) (s : State) : Out := .next (xrefBegin j s)

/-- XREF_END (R221). -/
def xrefEnd (j : Nat) (s : State) : State :=
  if stackTemp s j ≤ 82 ∧ bit (rg s (Rg.JST_STAT j)) 16 = true then
    raiseEv (Pg.JSTACK j) 0x205 0 0 (wrF (Rg.JST_STAT j) 16 16 0 s)
  else s
def execXrefEnd (j : Nat) (s : State) : Out := .next (xrefEnd j s)

/-! ### Retraining and retirement (R223 to R225) -/

/-- JST_STAT.STATE (Table 9-10): 0 SERVING, 1 RETRAINING, 2 RETIRING, 3 RETIRED, 4 OFFLINE. -/
def stackState (s : State) (j : Nat) : Nat := bits (rg s (Rg.JST_STAT j)) 31 29
def setStack (j c : Nat) (s : State) : State := wrF (Rg.JST_STAT j) 31 29 c s

/-- STACK_RETRAIN (R223). -/
def stackRetrain (tag : BitVec 16) : State → State :=
  command 0x05 tag inRUQST (fun s =>
    let j := bits (arg0 s) 2 0
    [((List.range 8).any fun k => k ≠ j && (stackState s k = 1 || stackState s k = 2), rsState),
     (stackState s j = 3, rsState),
     (stepLive s && (decide ((rg s Rg.HOLD_TO).toNat < 100000) || decide ((rg s (Rg.JMC_TKT_TO 0)).toNat < 100000)), rsState)])
    fun s =>
      let j := bits (arg0 s) 2 0
      raiseEv (Pg.JSTACK j) 0x206 0 0 (setStack j 1 s)
def execStackRetrain (tag : BitVec 16) (s : State) : Out := .next (stackRetrain tag s)

/-- RETRAIN_COMPLETE (R223, R365): on success the queued repairs are applied and the stack serves; a failure of the
training or of the scan leaves it OFFLINE. -/
def retrainComplete (ok : Bool) (s : State) : State :=
  match (List.range 8).find? (fun j => stackState s j = 1) with
  | none => s
  | some j =>
    let r := rg s (Rg.JST_REPAIR j)
    let q := min (bits r 15 0) (bits r 31 16)
    let s := if ok then wr (Rg.JST_REPAIR j) (word ((bits r 31 16 - q) * 0x10000 + (bits r 15 0 - q))) s else s
    let s := satAdd (Rg.JST_RETRAIN j) 1 (setStack j (if ok then 0 else 4) s)
    cmdEnd 0x05 (if ok then resOk else resFailed) (raiseEv (Pg.JSTACK j) 0x207 (b2n (!ok)) 0 s)
def execRetrainComplete (ok : Bool) (s : State) : Out := .next (retrainComplete ok s)

/-- The relief eighth (Table 9-1). -/
def reliefBase : Nat := 0x005400000000
def reliefSize : Nat := 0x000C00000000
/-- Granules of a stack below the boundary. -/
def stackGranules : Nat := 168 * 2 ^ 20

/-- STACK_RETIRE (R224): the relief eighth is withdrawn and the copy starts. A part retires one stack in its life. -/
def stackRetire (tag : BitVec 16) : State → State :=
  command 0x06 tag inRUQT (fun s =>
    [(s.retired, rsState),
     ((regionsOf s 0).any fun r => overlap r.base (2 * r.size) reliefBase reliefSize, rsState)])
    fun s =>
      let j := bits (arg0 s) 2 0
      let s := { s with retired := true, relocOff := stackState s j = 4 }
      let s := wrMirror Rg.JMC_STAT (word (0xC0000000 + j * 0x1000000 + bits (rg s (Rg.JMC_STAT 0)) 0 0)) s
      raiseEv (Pg.JMC j) 0x208 0 0 (setStack j 2 s)
def execStackRetire (tag : BitVec 16) (s : State) : Out := .next (stackRetire tag s)

/-- A granule is written to relief with the poison pattern (R225): its 64 words are counted and reported. -/
def poisonGranule (j : Nat) (s : State) (g : Nat) : State :=
  ueNote j (256 * g) 64 { s with memBad := (List.range 16).foldl (fun l i => setIns (16 * g + i) l) s.memBad }

/-- The copy of a retirement has reached `q` granules of the stack (R224, R225): those passed that read uncorrectable, as they
stood or as `found` names them by address / 256, are poisoned, and every one of a stack that was OFFLINE. The granules are
copied in rising order (DESIGN CHOICE, log entry 45). -/
def relocTo (q : Nat) (found : List Nat) (s : State) : State :=
  match (List.range 8).find? (fun j => stackState s j = 2) with
  | none => s
  | some j =>
    let p := bits (rg s (Rg.JMC_RELOC_PROG 0)) 27 0
    let q := min q stackGranules
    if q ≤ p then s
    else
      let bad := if s.relocOff then (List.range (q - p)).map fun i => 8 * (p + i) + j
        else ((s.memBad.map (· / 16)) ++ found).foldl (fun l g =>
          if g % 8 = j ∧ p ≤ g / 8 ∧ g / 8 < q then setIns g l else l) []
      wrMirror Rg.JMC_RELOC_PROG (word q) (bad.foldl (poisonGranule j) s)

/-- RELOCATION_COMPLETE (R225): the copy ends; `found` are granules that its last part finds uncorrectable. -/
def relocationComplete (found : List Nat) (s : State) : State :=
  match (List.range 8).find? (fun j => stackState s j = 2) with
  | none => s
  | some j =>
    let s := relocTo stackGranules found s
    let s := wrMirror Rg.JMC_STAT (putBits (rg s (Rg.JMC_STAT 0)) 30 30 0) { s with relocOff := false }
    cmdEnd 0x06 resOk (raiseEv (Pg.JMC j) 0x209 0 0 (setStack j 3 s))
def execRelocationComplete (found : List Nat) (s : State) : Out := .next (relocationComplete found s)

/-! ### Requests and scrub (R210, R211, R215, R217, R220, R222) -/

/-- JMC_ACCESS (R211, R220): a request to address `a` that arrives at gauge `t` and occupies its channel for `dur` gt waits
for a planned window, for an extra window while its stack runs hot, and for `lock` gt of a scrub extension, retrain or
granule lock; `ce` of its words are corrected, and `row` says that their row is queued for repair. `tce` gives, by bench, the
corrected words that trays and instruction stores deliver meanwhile (R215), `copied` the granules that a relocation has copied
(R224), and `par` the words of the request's granule, by address / 4, that arrive with a parity error when they are written (R217). -/
def jmcAccess (a t dur lock ce : Nat) (row : Bool) (tce : List (Nat × Nat)) (copied : Nat) (par : List Nat) (s : State) : State :=
  let s := tce.foldl (fun s e => ceCount (Pg.TRAY e.1) (Rg.TRAY_ECC_CE e.1) e.2 s) (relocTo copied [] s)
  let j := jmcAt s a
  if memEnd s ≤ a then s
  else
    let p := chanOf s a % 15
    let w1 := windowWait (260 * p) t dur
    let w2 := if bit (rg s (Rg.JST_STAT j)) 16 then windowWait (260 * p + 1950) (t + w1) dur else 0
    let s := satAdd (Rg.JMC_REF_WAIT j) w1 (satAdd (Rg.JMC_XREF_WAIT j) (w2 + lock) s)
    let s := { s with parAt := par.foldl (fun l w => setIns w l) s.parAt }
    queueRepair j (row && decide (0 < ce)) (ceCount (Pg.JMC j) (Rg.JMC_CE_COUNT j) ce s)
def execJmcAccess (a t dur lock ce : Nat) (row : Bool) (s : State) (tce : List (Nat × Nat) := []) (copied : Nat := 0)
    (par : List Nat := []) : Out :=
  .next (jmcAccess a t dur lock ce row tce copied par s)

/-- Bursts of a channel (Table 9-3). -/
def chanBursts : Nat := 25165824

/-- Gauge tick `t` lies in a planned window of channel `gc` whose number the stack's scrub uses (R220, R222). The windows are
numbered from gauge 0 (DESIGN CHOICE, log entry 45). -/
def scrubWindow (s : State) (gc t : Nat) : Bool :=
  decide (260 * (gc % 15) ≤ t % 3900 ∧ t % 3900 < 260 * (gc % 15) + 260)
    && t / 3900 % 2 ^ bits (rg s (Rg.JST_SCRUB (gc / 32))) 3 0 == 0 && decide (spGet 0 gc s.scrubWin ≤ t / 3900)

/-- The 64 B burst at `a` holds a bad block. -/
def burstBad (s : State) (a : Nat) : Bool := (List.range 4).any fun i => memUe s (a / 64 * 64 + 16 * i)

/-- The stacks are scrubbed: not in NAP (Table 17-5), nor while nothing runs. -/
def scrubOn (s : State) : Bool := manageable s && s.chip != .nap

/-- SCRUB_READ (R222): in the planned window at `t` the base die reads the next 64 B burst of channel `gc`, the one that holds `a`
(which one comes next is not architectural, R210): 0 clean, 1 corrected and written back, 2 uncorrectable at `a`. `row` says that
the burst's row is queued for repair. -/
def scrubRead (gc a t res : Nat) (row : Bool) (s : State) : State :=
  let j := gc / 32
  if scrubOn s = false ∨ chanOf s a ≠ gc ∨ memEnd s ≤ a ∨ scrubWindow s gc t = false then s
  else
    let n := spGet 0 gc s.scrubPos + 1
    let s := gaugeTo t { s with scrubPos := spPut 0 gc (n % chanBursts) s.scrubPos,
                                scrubWin := spPut 0 gc (t / 3900 + 1) s.scrubWin }
    let s := if n = chanBursts then satAdd (Rg.JST_SCRUB_PASS j) 1 s else s
    if res = 2 ∨ burstBad s a = true then
      raiseEv (Pg.JSTACK j) 0x203 a (a / 2 ^ 32) (satAdd (Rg.JST_SCRUB_UE j) 1 (if burstBad s a then s else memSpoil a s))
    else if res = 1 then queueRepair j row (ceCount (Pg.JSTACK j) (Rg.JST_SCRUB_CE j) 1 s)
    else s
def execScrubRead (gc a t res : Nat) (row : Bool) (s : State) : Out := .next (scrubRead gc a t res row s)

/-! ### The cabinet's loads and stores (R212, R216, Table 9-5) -/

/-- Lines of the cabinet's L2 that the `n` bytes at `a` touch (R372). -/
def l2Lines (a n : Nat) : List Nat := (List.range ((a % 64 + n + 63) / 64)).map (a / 64 + ·)

/-- The loader's lines are locked in L2, at 0x0001_FFE0_0000 to 0x0001_FFFF_FFFF (R402). -/
def loaderLocked (s : State) : Bool := bit (rg s Rg.CAB_STAT) 31
def loaderLine (k : Nat) : Bool := decide (0x7FF8000 ≤ k ∧ k < 0x8000000)
def lockedLine (s : State) (k : Nat) : Bool := loaderLocked s && loaderLine k

/-- A line as memory has it; a loader line that has not been stored to holds the loader, whose bytes are free values. -/
def lineBytes (s : State) (k : Nat) : List Byte :=
  if lockedLine s k then (List.range 64).map fun i => Config.loaderByte (64 * k + i) else memBytes s (64 * k) 64

/-- The bytes of memory as a cacheable mapping shows them, its lines being in L2. -/
def l2Byte (s : State) (a : Nat) : Byte := (spGet [] (a / 64) s.l2).getD (a % 64) 0
/-- Lines come into L2, where they stay as they are: L2 is coherent with nothing outside the cabinet (R372). -/
def l2Fill (ks : List Nat) (s : State) : State :=
  ks.foldl (fun s k => if (spGet [] k s.l2).isEmpty then { s with l2 := spPut [] k (lineBytes s k) s.l2 } else s) s
/-- A cacheable store changes the lines that it touches. -/
def l2Store (a : Nat) (bs : List Byte) (s : State) : State :=
  ((List.range bs.length).zip bs).foldl (fun s e =>
    let k := (a + e.1) / 64
    { s with l2 := spPut [] k ((spGet [] k s.l2).set ((a + e.1) % 64) e.2) s.l2 }) s

/-- A load of `n` bytes at `a` past L2. An access beyond the space and a load of uncorrectable data are access faults. -/
def cabLoad (a n : Nat) (s : State) : State :=
  if memEnd s < a + n then { s with cabFault := true }
  else if rangeAny a n (memUe s) then { memUeReport a n s with cabFault := true }
  else { s with cabData := memBytes s a n, cabFault := false }

/-- A store past L2; one to a guarded region during a step is an access fault (Table 9-5). -/
def cabStore (a : Nat) (bs : List Byte) (s : State) : State :=
  if unitWriteOk s a bs.length then { memArrive a bs s with cabFault := false } else { s with cabFault := true }

/-- A load through L2: only the lines that are not there come from memory. -/
def cabLoadCached (a n : Nat) (s : State) : State :=
  let new := (l2Lines a n).filter fun k => (spGet [] k s.l2).isEmpty && !lockedLine s k
  if memEnd s < a + n then { s with cabFault := true }
  else if new.any fun k => rangeAny (64 * k) 64 (memUe s) then
    { new.foldl (fun s k => memUeReport (64 * k) 64 s) s with cabFault := true }
  else
    let s := l2Fill (l2Lines a n) s
    { s with cabData := (List.range n).map fun i => l2Byte s (a + i), cabFault := false }

/-- A store through L2: it goes on to memory at once (DESIGN CHOICE, log entry 77), but for the loader's locked lines. -/
def cabStoreCached (a : Nat) (bs : List Byte) (s : State) : State :=
  if (l2Lines a bs.length).any (lockedLine s) then { l2Store a bs (l2Fill (l2Lines a bs.length) s) with cabFault := false }
  else
    let t := cabStore a bs s
    if t.cabFault then t else { t with l2 := (l2Store a bs (l2Fill (l2Lines a bs.length) s)).l2 }

/-- cbo.inval of the lines of a range: what memory holds becomes visible. Locked lines stay. -/
def cabInval (a n : Nat) (s : State) : State :=
  (l2Lines a n).foldl (fun s k => if lockedLine s k then s else { s with l2 := spPut [] k [] s.l2 }) s

/-- A line as L2 shows it. -/
def l2Line (s : State) (k : Nat) : List Byte :=
  let l := spGet [] k s.l2
  if l.isEmpty then lineBytes s k else l

/-- The loader unlocks its lines (R402), which it must not do before JMC_STAT.KEY is 1 on all eight JMCs: from then on they are
lines as others are, and memory has them. -/
def cabUnlock (s : State) : State :=
  if loaderLocked s then
    (List.range 0x8000).foldl (fun t i => memArrive (64 * (0x7FF8000 + i)) (l2Line s (0x7FF8000 + i)) t) (wrF Rg.CAB_STAT 31 31 0 s)
  else s

/-- CABINET_MEM_ACCESS: a load of `n` bytes at `a`, a store of the bytes given, or an operation on L2 (R212, R372, R402). -/
def cabinetMemAccess (a n : Nat) (data : Option (List Byte)) (kind : CabKind) (s : State) : State :=
  if !manageable s then s
  else match kind, data with
    | .uncached, some bs => cabStore a bs s
    | .uncached, none => cabLoad a n s
    | .cached, some bs => cabStoreCached a bs s
    | .cached, none => cabLoadCached a n s
    | .inval, _ => cabInval a n s
    | .unlock, _ => cabUnlock s
def execCabinetMemAccess (a n : Nat) (data : Option (List Byte)) (s : State) (kind : CabKind := .uncached) : Out :=
  .next (cabinetMemAccess a n data kind s)

end Sys2Proof.Machine
end

