-- ==== Sys2Proof/Machine/Gcm.lean ====
section
/-! DEFINITION. AES-256-GCM (R282, NIST SP 800-38D and FIPS 197): the cipher of the slots. Blocks are numbers. -/

namespace Sys2Proof.Machine

/-- The S-box of FIPS 197 in eight rows of 32 entries, the first entry of a row in its low byte. -/
def sboxRows : List Nat :=
  [0xc072a49cafa2d4adf04759fa7dc982ca76abd7fe2b670130c56f6bf27b777c63,
   0x75b227ebe28012079a059618c323c7041531d871f1e5a534ccf73f362693fdb7,
   0xcf584c4a39becb6a5bb1fc20ed00d153842fe329b3d63b52a05a6e1b1a2c8309,
   0xd2f3ff1021dab6bcf5389d928f40a351a89f3c507f02f94585334d43fbaaefd0,
   0xdb0b5ede14b8ee4688902a22dc4f816073195d643d7ea7c41744975fec130ccd,
   0x08ae7a65eaf4566ca94ed58d6d37c8e779e4959162acd3c25c2406490a3a32e0,
   0x9e1dc186b95735610ef6034866b53e708a8bbd4b1f74dde8c6b4a61c2e2578ba,
   0x16bb54b00f2d99416842e6bf0d89a18cdf2855cee9871e9b948ed9691198f8e1]

def subByte (b : Nat) : Nat := (sboxRows.getD (b / 32) 0 >>> (8 * (b % 32))) % 256

/-- SubBytes of a word of four bytes, the first byte low. -/
def subWord (w : Nat) : Nat :=
  subByte (w % 256) + subByte (w >>> 8 % 256) <<< 8 + subByte (w >>> 16 % 256) <<< 16 + subByte (w >>> 24 % 256) <<< 24

/-- SubBytes and ShiftRows of a block, byte 4c + r of which is row r of column c, byte 0 low. -/
def subShift (b : Nat) : Nat :=
  (List.range 16).foldl (fun a i => a + subByte (b >>> (8 * ((i + 4 * (i % 4)) % 16)) % 256) <<< (8 * i)) 0

/-- Every byte of a block multiplied by x in the field of AES. -/
def xtimes (b : Nat) : Nat :=
  (b &&& 0x7F7F7F7F7F7F7F7F7F7F7F7F7F7F7F7F) <<< 1 ^^^ ((b >>> 7) &&& 0x01010101010101010101010101010101) * 0x1B

/-- Every column turned by one row. -/
def turn (b : Nat) : Nat :=
  (b >>> 8 &&& 0x00FFFFFF00FFFFFF00FFFFFF00FFFFFF) + (b &&& 0x000000FF000000FF000000FF000000FF) <<< 24

/-- MixColumns. -/
def mixColumns (b : Nat) : Nat := xtimes (b ^^^ turn b) ^^^ turn b ^^^ turn (turn b) ^^^ turn (turn (turn b))

/-- The next word of the key schedule of AES-256 after the words `ws`, the last first. -/
def keyStep (ws : List Nat) (rcon : Nat) : Nat :=
  let t := ws.headD 0
  let t := if ws.length % 8 = 0 then subWord (t >>> 8 + (t % 256) <<< 24) ^^^ rcon
    else if ws.length % 8 = 4 then subWord t else t
  ws.getD 7 0 ^^^ t

/-- The 15 round keys of a 32-byte key. -/
def roundKeys (key : List Byte) : List Nat :=
  let r := (List.range 52).foldl (fun (a : List Nat × Nat) _ =>
    (keyStep a.1 a.2 :: a.1, if a.1.length % 8 = 0 then xtimes a.2 else a.2)) ((chunks 4 8 key).reverse, 1)
  let ws := r.1.reverse
  (List.range 15).map fun i =>
    ws.getD (4 * i) 0 + ws.getD (4 * i + 1) 0 <<< 32 + ws.getD (4 * i + 2) 0 <<< 64 + ws.getD (4 * i + 3) 0 <<< 96

/-- AES of one block under round keys. -/
def aesBlock (rk : List Nat) (b : Nat) : Nat :=
  subShift (((rk.drop 1).take 13).foldl (fun b k => mixColumns (subShift b) ^^^ k) (b ^^^ rk.headD 0)) ^^^ rk.getD 14 0

/-- Bytes as a number, the most significant first, and back. -/
def beNat (bs : List Byte) : Nat := leNat bs.reverse
def beBytes (n v : Nat) : List Byte := (leBytes n v).reverse

/-- Multiplication in the field of GHASH (SP 800-38D, algorithm 1). -/
def ghashMul (x y : Nat) : Nat :=
  ((List.range 128).foldl (fun (a : Nat × Nat) i =>
    (a.1 ^^^ (x >>> (127 - i) % 2) * a.2, a.2 >>> 1 ^^^ a.2 % 2 * (0xE1 <<< 120))) (0, y)).1

/-- Bytes in blocks of 16, the last padded with zeros, as numbers. -/
def gcmBlocks (bs : List Byte) : List Nat :=
  (List.range ((bs.length + 15) / 16)).map fun i =>
    let b := (bs.drop (16 * i)).take 16
    beNat (b ++ List.replicate (16 - b.length) 0)

/-- GHASH of additional data and ciphertext under the hash key `h`. -/
def ghash (h : Nat) (aad ct : List Byte) : Nat :=
  (gcmBlocks aad ++ gcmBlocks ct ++ [8 * aad.length * 2 ^ 64 + 8 * ct.length]).foldl (fun y b => ghashMul (y ^^^ b) h) 0

/-- AES of a 12-byte IV and counter `k`. -/
def gcmCounter (rk : List Nat) (iv : List Byte) (k : Nat) : List Byte := leBytes 16 (aesBlock rk (leNat (iv ++ beBytes 4 k)))

/-- Bytes exclusive-or the key stream of GCM, which begins at counter 2. -/
def gcmStream (rk : List Nat) (iv bs : List Byte) : List Byte :=
  List.zipWith (fun x y => x ^^^ y) bs ((List.range ((bs.length + 15) / 16)).flatMap fun i => gcmCounter rk iv (i + 2))

/-- The tag of GCM over additional data and ciphertext. -/
def gcmTag (rk : List Nat) (iv aad ct : List Byte) : List Byte :=
  beBytes 16 (ghash (beNat (leBytes 16 (aesBlock rk 0))) aad ct ^^^ beNat (gcmCounter rk iv 1))

/-- GCM encryption: the ciphertext and the tag. -/
def gcmSeal (key iv aad pt : List Byte) : List Byte × List Byte :=
  let rk := roundKeys key
  let ct := gcmStream rk iv pt
  (ct, gcmTag rk iv aad ct)

/-- GCM decryption: the plaintext, and whether the tag verifies. -/
def gcmOpen (key iv aad ct tag : List Byte) : List Byte × Bool :=
  let rk := roundKeys key
  (gcmStream rk iv ct, gcmTag rk iv aad ct == tag)

end Sys2Proof.Machine
end

