-- ==== Sys2Proof/Machine/Wire.lean ====
section
/-! DEFINITION. Slots on the wire (section 11.3, R264, R282): their bytes, their encryption, and their symbols on the lanes. -/

namespace Sys2Proof.Machine

/-! ### Flits (Tables 11-5 and 11-6) -/

/-- TYPE codes (Table 11-6). -/
def typeCode : FlitType → Nat
  | .op => 1 | .data => 2 | .resp => 3 | .fack => 4 | .credit => 5 | .seal => 6 | .echoReq => 7 | .echoRep => 8
  | .error => 9 | .other => 10

/-- The type of a code: none for EMPTY. -/
def typeOf : Nat → Option FlitType
  | 0 => none | 1 => some .op | 2 => some .data | 3 => some .resp | 4 => some .fack | 5 => some .credit | 6 => some .seal
  | 7 => some .echoReq | 8 => some .echoRep | 9 => some .error | _ => some .other

/-- The 16 header bytes of a flit (Table 11-5). -/
def headerBytes (f : Flit) : List Byte :=
  leBytes 4 f.sg ++ leBytes 4 f.epoch ++ leBytes 4 (f.step % 2 ^ 16 * 2 ^ 16 + f.seq % 2 ^ 16)
    ++ leBytes 4 (typeCode f.typ * 2 ^ 28 + b2n f.mc * 2 ^ 27 + b2n f.last * 2 ^ 26 + f.flow % 2 ^ 12 * 2 ^ 14 + f.dst % 2 ^ 14)

/-- The 256 bytes of a payload. -/
def payload (f : Flit) : List Byte := f.pay.take 256 ++ List.replicate (256 - f.pay.length) 0

/-- The flit of a header and a payload; none in an EMPTY position. -/
def readFlit (h p : List Byte) : Option Flit :=
  let w (k : Nat) : Nat := leNat ((h.drop (4 * k)).take 4)
  (typeOf (w 3 / 2 ^ 28)).map fun t =>
    { typ := t, mc := (w 3).testBit 27, last := (w 3).testBit 26, flow := w 3 / 2 ^ 14 % 2 ^ 12, dst := w 3 % 2 ^ 14,
      epoch := w 1, step := w 2 / 2 ^ 16, seq := w 2 % 2 ^ 16, sg := w 0, pay := p }

/-- The header and payload of the five flit positions, those after the flits EMPTY (R268). -/
def positions (fs : List Flit) : List (List Byte × List Byte) :=
  (List.range 5).map fun k => match fs[k]? with
    | some f => (headerBytes f, payload f)
    | none => (List.replicate 16 0, List.replicate 256 0)

/-! ### The preamble (Table 11-4) -/

def slotSync : Nat := 0xC3A50F96E14B7D28

def kindCode : SlotKind → Nat
  | .idle => 0 | .data => 1 | .withdrawn => 2 | .train => 3

/-- Preamble bytes 8 to 19: SLOT, KIND and FRAME; ACK_REF and RESULT; OPEN_CRED and the SWAP fields. -/
def preHead (t : Slot) : List Byte :=
  leBytes 4 (t.g / 8 % 512 * 2 ^ 23 + kindCode t.kind * 2 ^ 20 + t.g / 4096 % 2 ^ 16)
    ++ leBytes 4 (match t.ack with | some (r, ok) => r % 2 ^ 18 * 2 ^ 14 + (if ok then 1 else 2) * 2 ^ 12 | none => 0)
    ++ leBytes 4 (t.cred % 2 ^ 16 * 2 ^ 16 + (match t.swap with | some (j, y) => j % 16 * 2 ^ 12 + y % 16 * 2 ^ 8 + 2 ^ 7 | none => 0))

/-- The 60 bytes of a preamble with the given bytes 8 to 19 and TAG. -/
def preamble (head tag : List Byte) : List Byte :=
  let body := head ++ tag ++ List.replicate 20 0
  leBytes 8 slotSync ++ body ++ leBytes 4 (crc32 body).toNat

/-! ### The slot (R268, R271, R282) -/

/-- The IV of the slot at `g` of spline `n`; `fromSwitch` is the direction (R282). The most significant byte goes first, as SP
800-38D writes bit strings (PRESUMED, log entry 76). -/
def slotIv (n : Nat) (fromSwitch : Bool) (g : Nat) : List Byte :=
  beBytes 12 (n % 16 * 2 ^ 92 + b2n fromSwitch * 2 ^ 91 + g / 8 % 2 ^ 61)

/-- The 1,600 bytes of a slot under a key and an IV; without them it is not encrypted, and TAG is 0 (R282). -/
def slotBytes (key : Option (List Byte × List Byte)) (t : Slot) : List Byte :=
  let ps := positions t.flits
  let heads := ps.flatMap (·.1)
  let plain := ps.flatMap (·.2)
  let sealed := match key with
    | some (k, iv) => gcmSeal k iv (preHead t ++ heads) plain
    | none => (plain, List.replicate 16 0)
  (List.range 160).map Config.guardFill ++ preamble (preHead t) sealed.2
    ++ (List.range 5).flatMap fun k =>
      let hc := (heads.drop (16 * k)).take 16 ++ (sealed.1.drop (256 * k)).take 256
      hc ++ leBytes 4 (crc32 hc).toNat

/-- What the 1,600 bytes of a received slot say (R278): the boundary `g` is the member's own reckoning, and its first symbol
arrived at `arr` tenths of a gt. Without a key the slot is not encrypted. -/
def readSlot (key : Option (List Byte × List Byte)) (g arr : Nat) (bs : List Byte) : RxSlot :=
  let at' (o n : Nat) : List Byte := (bs.drop o).take n
  let pos (k : Nat) : List Byte := at' (220 + 276 * k) 276
  let w (k : Nat) : Nat := leNat (at' (160 + 4 * k) 4)
  let ct := (List.range 5).flatMap fun k => (pos k).drop 16 |>.take 256
  let heads := (List.range 5).flatMap fun k => (pos k).take 16
  let plain := match key with
    | some (k, iv) => gcmOpen k iv (at' 168 12 ++ heads) ct (at' 180 16)
    | none => (ct, true)
  { g := g, arr := arr,
    ref := w 2 % 512 * 512 + w 2 / 2 ^ 23 % 512,
    kind := match w 2 / 2 ^ 20 % 8 with | 1 => .data | 2 => .withdrawn | 3 => .train | _ => .idle,
    preOk := leNat (at' 160 8) == slotSync && (crc32 (at' 168 48)).toNat == w 14,
    flitsOk := (List.range 5).all fun k => (crc32 ((pos k).take 272)).toNat == leNat ((pos k).drop 272),
    tagOk := plain.2,
    rep := match w 3 / 2 ^ 12 % 4 with | 1 => some (w 3 / 2 ^ 14, true) | 2 => some (w 3 / 2 ^ 14, false) | _ => none,
    cred := w 4 / 2 ^ 16,
    flits := (List.range 5).filterMap fun k => readFlit ((pos k).take 16) ((plain.1.drop (256 * k)).take 256) }

/-! ### Lanes and symbols (R264) -/

/-- A PAM4 symbol of two bits, the first one first: the Gray coding of IEEE 802.3 (PRESUMED, log entry 76). -/
def graySym (a b : Bool) : Nat := if a then (if b then 2 else 3) else if b then 1 else 0

/-- The four symbols of a byte, least significant bits first, and the byte of four symbols. -/
def byteSyms (b : Byte) : List Nat :=
  (List.range 4).map fun i => graySym (b.getLsbD (2 * i)) (b.getLsbD (2 * i + 1))
def symsByte (q : List Nat) : Byte :=
  BitVec.ofNat 8 ((List.range 4).foldl (fun a i =>
    let v := q.getD i 0
    a + (b2n (decide (2 ≤ v)) + 2 * b2n (v == 1 || v == 2)) * 4 ^ i) 0)

/-- The symbols of logical lane `j` over a slot: words j, j + 8, … of it. -/
def laneSyms (bs : List Byte) (j : Nat) : List Nat :=
  (List.range 50).flatMap fun i => ((bs.drop (4 * (8 * i + j))).take 4).flatMap byteSyms

/-- The symbols of the nine physical lanes, lane `map[j]` carrying logical lane j (R262); the spare carries none. -/
def physLanes (map : List Nat) (bs : List Byte) : List (List Nat) :=
  (List.range 9).map fun y => match map.findIdx? (· = y) with
    | some j => laneSyms bs j
    | none => []

/-- The bytes of a slot from the symbols of the nine physical lanes, deskewed. -/
def lanesBytes (map : List Nat) (ph : List (List Nat)) : List Byte :=
  (List.range 400).flatMap fun w =>
    let l := (ph.getD (map.getD (w % 8) 0) []).drop (16 * (w / 8))
    (List.range 4).map fun i => symsByte ((l.drop (4 * i)).take 4)

/-- The knock (R284): its 64 symbols, a symbol v being sent at level 2v − 3. -/
def knockSyms : List Nat := (List.range 64).map fun i => 0xE4B19C36D2F08A5B27C96E13B05DF4A8 / 4 ^ (63 - i) % 4

/-! ### Digests (Table 2-6) -/

/-- A flit is added to the digest of its flow. -/
def digestFlit (f : Flit) (d : Digest) : Digest :=
  { flits := d.flits + 1,
    wit := ((List.range 64).zip (chunks 4 64 (payload f))).foldl (fun a e => a + wmix (64 * f.seq + e.1) e.2 0) d.wit }

end Sys2Proof.Machine
end

