-- ==== Sys2Proof/Machine/Flows.lean ====
section
/-! DEFINITION. Flows (chapter 12): the receive checks, the operations received, their reports, timeouts, and writes of flow
contexts. -/

namespace Sys2Proof.Machine

/-! ### Receive checks (Tables 11-10 and 12-5) -/

/-- CURRENT of LKD_MEMBER (R288). -/
def memberId (s : State) : Nat := bits (rg s (Rg.LKD_MEMBER 0)) 13 0

/-- The member belongs to group `g` (R306). -/
def inGroup (s : State) (g : Nat) : Bool := bit (rg s (Rg.LKD_GRPn 0 (g / 32))) (g % 32)

/-- Keys of the events that are written once in a telemetry interval. -/
def onceKey (code page : Nat) : Nat := code * 2 ^ 26 + page

/-- Check 3 (Table 11-10). -/
def destOk (s : State) (f : Flit) : Bool := if f.mc then inGroup s f.dst else f.dst == memberId s

/-- Check 4: the expanded short gauge lies within the frame before the boundary `g` of the slot of arrival. -/
def freshOk (s : State) (g : Nat) (f : Flit) : Bool :=
  decide (f.sg % 2 ^ 32 ≠ (s.gauge.toNat + 2 ^ 31) % 2 ^ 32
    ∧ (g % 2 ^ 64 + 2 ^ 64 - sgExpand f.sg s.gauge.toNat) % 2 ^ 64 < 4096)

/-- A discard at one of the steps 2 to 5 also counts in the context's DISC (R300). -/
def discard (c : Nat) (s : State) : State := ctxSet c 7 15 0 (min 0xFFFF (ctxF s c 7 15 0 + 1)) s

/-- A credit-bearing flit (R301). -/
def bearsCredit (t : FlitType) : Bool := t == .op || t == .data

/-- The intake buffer of a flit: its context's link die, and whether its flow is multicast (R301). -/
def intakeKey (f : Flit) : Nat := 2 * dieOf f.flow + b2n f.mc

/-- Flits that an intake buffer holds (R301). -/
def intakeRoom : Nat := 4096

/-- A credit-bearing flit finds room in its intake buffer, and enters it. -/
def hasRoom (s : State) (f : Flit) : Bool := decide ((spGet [] (intakeKey f) s.intake).length < intakeRoom)
def intakeIn (f : Flit) (s : State) : State :=
  if bearsCredit f.typ then
    { s with intake := spPut [] (intakeKey f) (spGet [] (intakeKey f) s.intake ++ [(f.flow, f.seq)]) s.intake }
  else s

/-- The `n` oldest flits of buffer `k` leave it: those of unicast flows are covered by CUM_SEQ (R297). -/
def intakeOut (k n : Nat) (s : State) : State :=
  let l := spGet [] k s.intake
  let s := { s with intake := spPut [] k (l.drop n) s.intake }
  if k % 2 = 1 then s
  else (l.take n).foldl (fun s e => modFlow e.1 (fun x => { x with cum := e.2, cumNew := true }) s) s

/-- Check 5, the steps of Table 12-5, on context `c`: whether the flit passes, and the state after it. -/
def flowCheck (f : Flit) (s : State) : Bool × State :=
  let c := f.flow
  let p := flowPage c
  if 3072 ≤ c then (false, s)
  else if !ctxValid s c || (ctxPeer s c == 0xFFF && !(f.mc && (f.typ == .op || f.typ == .data || f.typ == .seal))) then
    (false, onceInterval (onceKey 0x313 p) (raiseEv p 0x313 c 0) (satAdd (Rg.FLOW_DISC_CTX (c / 64)) 1 s))
  else if f.epoch % 2 ^ 32 ≠ (rg s (ctxReg c 3)).toNat then
    (false, onceInterval (onceKey 0x312 p) (raiseEv p 0x312 f.epoch c)
      (satAdd (Rg.FLOW_DISC_EPOCH (c / 64)) 1 (discard c s)))
  else if !ctxNoStep s c && !(f.step % 2 ^ 16 == ctxF s c 5 15 0 && stepLive s) then
    (false, satAdd (Rg.FLOW_DISC_STEP (c / 64)) 1 (discard c s))
  else
    let rx := ctxF s c 4 15 0
    match serCmp 16 f.seq rx with
    | .equal =>
      let s := ctxSet c 4 15 0 (rx + 1) s
      if bearsCredit f.typ && !hasRoom s f then
        let d := dieOf c
        (false, onceInterval (onceKey 0x314 d) (raiseEv (Pg.LINKDIE d) 0x314 0 0) (satAdd (Rg.LKD_OVERRUN d) 1 (discard c s)))
      else (true, s)
    | .before => (false, satAdd (Rg.FLOW_DISC_DUP (c / 64)) 1 (discard c s))
    | _ => (false, satAdd (Rg.FLOW_DISC_GAP (c / 64)) 1 (discard c s))

/-! ### Intake capture (R45, R46, R460, R461) -/

/-- A capture entry of `u` units of 32 B for context `c` (R460): placed from the write unit on, around the end of the ring. -/
def captureEntry (c : Nat) (entry : List Byte) (s : State) : State :=
  let d := dieOf c
  let size := 2 ^ bits (rg s (Rg.LKD_CAP_CTL d)) 20 16
  let base := base48 s (Rg.LKD_CAP_BASE_LO d)
  let w := (rg s (Rg.LKD_CAP_WR d)).toNat
  let u := entry.length / 32
  let unit (i : Nat) : Nat := base + 32 * ((w + i) % size)
  if bit (rg s (Rg.LKD_CAP_CTL d)) 31 = false ∨ size < (rg s (Rg.LKD_CAP_WR d) - rg s (Rg.LKD_CAP_RD d)).toNat + u
      ∨ (List.range u).any (fun i => !unitWriteOk s (unit i) 32) = true then satAdd (Rg.LKD_CAP_LOST d) 1 s
  else
    let par := (List.range u).any fun i => !(parHits s (unit i) 32).isEmpty
    let s := (List.range u).foldl (fun s i => memArrive (unit i) ((entry.drop (32 * i)).take 32) s) s
    if par then satAdd (Rg.LKD_CAP_LOST d) 1 s else wr (Rg.LKD_CAP_WR d) (word (w + u)) s

/-- Check 6: the capture of a flit that its context delivers (Table 2-6). -/
def capture (f : Flit) (s : State) : State :=
  let c := f.flow
  match ctxF s c 0 29 28 with
  | 1 => modFlow c (fun x => { x with digest := digestFlit f x.digest }) s
  | 2 =>
    captureEntry c (headerBytes f ++ payload f ++ leBytes 8 s.gauge.toNat ++ leBytes 4 c ++ leBytes 4 0) s
  | _ => s

/-- Digest entries, when the step leaves CLOSE (R461). -/
def writeDigests (s : State) : State :=
  s.flows.foldl (fun s e =>
    if ctxF s e.1 0 29 28 = 1 ∧ e.2.digest.flits ≠ 0 then
      captureEntry e.1 (leBytes 4 e.1 ++ leBytes 4 e.2.digest.flits ++ leBytes 8 (s.stepNo % 2 ^ 48)
        ++ leBytes 8 e.2.digest.wit.toNat ++ leBytes 8 0) s
    else s) s

/-- A flit that is not addressed to the member (Table 11-10, check 3). -/
def misrouted (spl : Nat) (f : Flit) (s : State) : State :=
  onceInterval (onceKey 0x30A (Pg.SPLINE spl)) (raiseEv (Pg.SPLINE spl) 0x30A f.dst f.flow) (satAdd (Rg.SPL_MISROUTE spl) 1 s)

/-- Checks 3 to 6 on the flit that arrived in a slot at `g`, and its delivery. A replayed flit bears the short gauge of the run
captured, and is not judged by it (R47). In the rest state a flit that passes check 5 is neither captured nor delivered (R349), but a seal decision, which is recorded (Table 13-2). -/
def receive (spl g : Nat) (f : Flit) (deliver : State → State) (s : State) : State :=
  if destOk s f = false then misrouted spl f s
  else if s.replay = false ∧ freshOk s g f = false then satAdd (Rg.SPL_STALE spl) 1 s
  else
    let r := flowCheck f s
    if r.1 = false then r.2
    else
      let s := intakeIn f r.2
      if s.chip = .rest ∧ f.typ ≠ .seal then s
      else deliver (if f.typ = .op ∨ f.typ = .data ∨ f.typ = .resp then capture f s else s)

def spline (s : State) (x : Nat) : SplineSt := spGet {} x s.splines
def setSpline (x : Nat) (v : SplineSt) (s : State) : State := { s with splines := spPut {} x v s.splines }
def modSpline (x : Nat) (f : SplineSt → SplineSt) (s : State) : State := setSpline x (f (spline s x)) s

/-- The next flit that spline `spl` hands on, if its type is `t`: it is taken, checked and delivered. -/
def takeFlit (spl : Nat) (t : FlitType) (deliver : Flit → State → State) (s : State) : State :=
  match (spline s spl).rxq with
  | [] => s
  | (g, f) :: rest =>
    if f.typ ≠ t then s
    else receive spl g f (deliver f) (modSpline spl (fun x => { x with rxq := rest }) s)

/-- The same of a credit-bearing flit: after it, the `gone` oldest flits of its intake buffer have been handed on, and leave it
(R301). -/
def takeBearing (spl : Nat) (t : FlitType) (gone : Nat) (deliver : Flit → State → State) (s : State) : State :=
  match (spline s spl).rxq with
  | [] => s
  | (_, f) :: _ => if f.typ ≠ t then s else intakeOut (intakeKey f) gone (takeFlit spl t deliver s)

/-! ### Reports (R297) -/

/-- A report for the sender of an operation; a multicast one gets none (R305). -/
def ackOp (c : Nat) (mc : Bool) (tkt : Nat) (st : TktStatus) (s : State) : State :=
  if mc then s else modFlow c (fun x => { x with acks := x.acks ++ [(tkt, st)] }) s

/-! ### Operations received (R293 to R298) -/

/-- The fields of an OP payload (Table 12-3); none for a reserved OPK. -/
def opOf (bs : List Byte) : Option OpPay :=
  let at' (o n : Nat) : Nat := leNat ((bs.drop o).take n)
  (opkOf (at' 0 4 / 2 ^ 28)).map fun k =>
    { opk := k, fmt := at' 0 4 / 2 ^ 16 % 256, tkt := at' 0 4 % 2 ^ 13, opid := at' 4 4, addr := at' 8 8 % 2 ^ 48,
      rowLen := at' 16 4, rows := at' 20 4, mstride := at' 24 4, saddr := at' 28 8 % 2 ^ 48, slen := at' 36 4,
      clamp := at' 40 4 }

/-- Bytes of the rows of an operation, and of its rows and array as its flits carry them. -/
def rowBytes (p : OpPay) : Nat := p.rows * p.rowLen
def padTo (k n : Nat) : Nat := (n + k - 1) / k * k

/-- Address of byte `o` of the rows. -/
def rowAddr (p : OpPay) (o : Nat) : Nat := p.addr + o / p.rowLen * p.mstride + o % p.rowLen

/-- Status of row `k` for a write (R295). -/
def rowStatus (s : State) (p : OpPay) (k : Nat) : TktStatus := remoteWriteStatus s (p.addr + k * p.mstride) p.rowLen

/-- Rows that the bytes [o, o + n) of an operation's rows touch. -/
def rowsOf (p : OpPay) (o n : Nat) : List Nat :=
  if p.rowLen = 0 ∨ n = 0 then [] else (List.range ((o + n - 1) / p.rowLen - o / p.rowLen + 1)).map (o / p.rowLen + ·)

/-- Bytes of a WRITE that may be written arrive at their JMCs: PARITY where one of their words has a parity error (R217). -/
def remoteStore (a : Nat) (bs : List Byte) (r : State × TktStatus) : State × TktStatus :=
  (memArrive a bs r.1, r.2.worse (if (parHits r.1 a bs.length).isEmpty then .ok else .parity))

/-- The DATA bytes `bs`, at offset `o` of the padded stream, of a WRITE: the rows, and then the array, that may be written
are written. -/
def writeData (p : OpPay) (o : Nat) (bs : List Byte) (s : State) : State × TktStatus :=
  let n := rowBytes p
  let r := padTo 256 n
  if o < r then
    let m := min bs.length (n - o)
    let rows := rowsOf p o m
    rows.foldl (fun (a : State × TktStatus) k =>
      let st := rowStatus s p k
      if st = .ok then
        let lo := max o (k * p.rowLen)
        remoteStore (rowAddr p lo) ((bs.drop (lo - o)).take (min (o + m) ((k + 1) * p.rowLen) - lo)) a
      else (if o ≤ k * p.rowLen then remoteRefuse st (p.addr + k * p.mstride) p.rowLen a.1 else a.1, a.2.worse st)) (s, .ok)
  else
    let o := o - r
    let st := remoteWriteStatus s p.saddr p.slen
    if st = .ok then remoteStore (p.saddr + o) (bs.take (p.slen - o)) (s, .ok)
    else (if o = 0 then remoteRefuse st p.saddr p.slen s else s, st)

/-- The elements before glue unit `u` of an operation whose rows hold units of format `fmt`. -/
def unitElems (fmt : Nat) : Nat := glueSize fmt / (fxN fmt / 8)

/-- A complete GLUE (R233, R294): every unit of the rows that may be written is glued, with the exponent of its block. -/
def glueData (p : OpPay) (data : List Byte) (s : State) : State × TktStatus :=
  let g := glueSize p.fmt
  let n := rowBytes p
  let exps := data.drop (padTo 256 n)
  let stE := remoteWriteStatus s p.saddr p.slen
  let st0 := (List.range p.rows).foldl (fun (a : TktStatus) k => a.worse (rowStatus s p k)) .ok
  let s0 := (List.range p.rows).foldl (fun s1 k => remoteRefuse (rowStatus s p k) (p.addr + k * p.mstride) p.rowLen s1) s
  let s0 := remoteRefuse stE p.saddr p.slen s0
  (List.range (n / g)).foldl (fun (a : State × TktStatus) u =>
    let o := u * g
    if rowStatus s p (o / p.rowLen) = .ok ∧ stE = .ok then
      let b := u * unitElems p.fmt / 256
      let r := glueUnit p.fmt (rowAddr p o) ((data.drop o).take g) (p.saddr + 2 * b)
        (toSigned 16 (leNat ((exps.drop (2 * b)).take 2))) a.1
      (r.1, a.2.worse r.2)
    else a) (s0, st0.worse stE)

/-- The bytes a READ returns, row by row, up to the first row or the array with a non-OK status, and that status (R295,
R216). -/
def readData (s : State) (p : OpPay) : List Byte × TktStatus :=
  let part (a n : Nat) : TktStatus :=
    if rangeAny a n (memClosed s) then .closed else if rangeAny a n (memUe s) then .ue else .ok
  let rows := (List.range p.rows).foldl (fun (a : List Byte × TktStatus) k =>
    if a.2 ≠ .ok then a
    else
      let st := part (p.addr + k * p.mstride) p.rowLen
      if st = .ok then (a.1 ++ memBytes s (p.addr + k * p.mstride) p.rowLen, .ok) else (a.1, st)) ([], .ok)
  if rows.2 ≠ .ok then rows
  else
    let padded := rows.1 ++ List.replicate (padTo 256 rows.1.length - rows.1.length) 0
    let st := if p.slen = 0 then TktStatus.ok else part p.saddr p.slen
    if st = .ok then (padded ++ memBytes s p.saddr p.slen, .ok) else (padded, st)

/-- Uncorrectable data that a READ meets is reported by its JMC (R216). -/
def readReport (p : OpPay) (s : State) : State :=
  let s := (List.range p.rows).foldl (fun s k =>
    if rangeAny (p.addr + k * p.mstride) p.rowLen (memClosed s) then s else memUeReport (p.addr + k * p.mstride) p.rowLen s) s
  if p.slen = 0 ∨ rangeAny p.saddr p.slen (memClosed s) then s else memUeReport p.saddr p.slen s

/-- A READ is answered with RESP flits, or with a report that ends it (R296). -/
def performRead (c : Nat) (p : OpPay) (s : State) : State :=
  let r := readData s p
  let flits := if r.2 = .ok then payloads r.1.length r.1 else payloads (r.1.length / 256) (r.1.take (r.1.length / 256 * 256))
  let tx := (List.range flits.length).map fun i =>
    ({ typ := .resp, last := r.2 = .ok && i + 1 = flits.length, pay := flits.getD i [], tkt := none } : TxFlit)
  let s := modFlow c (fun x => { x with txq := x.txq ++ tx }) s
  if r.2 = .ok then s else ackOp c false p.tkt r.2 (readReport p s)

/-- A CLAMP adds to the local clamp of a logical bench, or to a global clamp (R186, Table 12-3). -/
def performClamp (p : OpPay) (s : State) : State :=
  let n := p.clamp / 2 ^ 24
  let r : ClampReq := { n := if p.clamp / 2 ^ 23 % 2 = 1 then n % 64 else n, src := none, v := p.clamp % 2 ^ 16 }
  if p.clamp / 2 ^ 23 % 2 = 1 then clampAsk 0 true r s
  else match physOf s (p.clamp / 2 ^ 16 % 128) with
    | some b => clampAsk b false r s
    | none => s

/-- The compute domain is fenced or being reset: link dies answer each OP with ERROR (R315). -/
def computeFenced (s : State) : Bool := fencedDom s 0x1000

/-- An ERROR payload of code PEER_FENCED (R315). -/
def errorBytes (s : State) : List Byte :=
  leBytes 2 1 ++ leBytes 2 (memberId s) ++ leBytes 4 (rg s (Rg.LKD_EPOCH 0)).toNat ++ List.replicate 248 0

/-- An OP is performed, or started if its data follows. -/
def deliverOp (f : Flit) (s : State) : State :=
  let c := f.flow
  if computeFenced s then
    if f.mc then s
    else modFlow c (fun x => { x with txq := x.txq ++ [{ typ := .error, last := false, pay := errorBytes s, tkt := none }] }) s
  else match opOf (payload f) with
    | none => s
    | some p => match p.opk with
      | .write | .glue => modFlow c (fun x => { x with rx := some { op := p, mc := f.mc, got := [], status := .ok } }) s
      | .read => if f.mc then s else performRead c p s
      | .clamp => ackOp c f.mc p.tkt .ok (performClamp p s)

/-- OP_RECEIVE (R295). -/
def opReceive (spl gone : Nat) (s : State) : State := takeBearing spl .op gone deliverOp s
def execOpReceive (spl gone : Nat) (s : State) : Out := .next (opReceive spl gone s)

/-- The data of a WRITE or GLUE arrives: a WRITE's rows are written as they come, a GLUE's units when it is complete. The
operation is complete at LAST, and is then reported. -/
def deliverData (f : Flit) (s : State) : State :=
  let c := f.flow
  match (flow s c).rx with
  | none => s
  | some x =>
    if computeFenced s then modFlow c (fun y => { y with rx := none }) s
    else
      let got := x.got ++ payload f
      let r := if x.op.opk = .write then writeData x.op x.got.length (payload f) s
        else if f.last ∧ fmtFx x.op.fmt = true then glueData x.op got s
        else (s, .ok)
      let st := x.status.worse r.2
      if f.last then ackOp c x.mc x.op.tkt st (modFlow c (fun y => { y with rx := none }) r.1)
      else modFlow c (fun y => { y with rx := some { x with got := got, status := st } }) r.1

/-- DATA_RECEIVE (R294). -/
def dataReceive (spl gone : Nat) (s : State) : State := takeBearing spl .data gone deliverData s
def execDataReceive (spl gone : Nat) (s : State) : Out := .next (dataReceive spl gone s)

/-- Tray address of byte `o` of the padded stream of a READ's responses (R296); none for padding. -/
def respAddr (d : TDesc) (o : Nat) : Option Nat :=
  let n := d.rows * d.rowLen
  let r := padTo 256 n
  if o < n then some (d.taddr + o / d.rowLen * d.tstride + o % d.rowLen)
  else if o < r ∨ r + xferScale d ≤ o then none
  else some (d.saddr + (o - r))

/-- The bytes of a response at offset `o` of that stream are written into the tray. -/
def respData (d : TDesc) (o : Nat) (bs : List Byte) (x : Bench) : Bench :=
  (List.range bs.length).foldl (fun x i => match respAddr d (o + i) with
    | some a => trayPut a (bs.getD i 0) x
    | none => x) x

/-- Words of a response that arrive at the tray with a parity error (R217): poisoned there. `par` gives for each the JMC that
counts it and its byte in the payload. -/
def respPar (b : Nat) (d : TDesc) (o : Nat) (par : List (Nat × Nat)) (s : State) : State :=
  par.foldl (fun s p => match respAddr d (o + p.2) with
    | some a => parityAt (p.1 % 8) (modBench b (traySpoil a) s)
    | none => s) s

/-- RESP data is written into the tray; the last of it ends the READ, clears its scoreboard entry and completes its ticket. -/
def deliverResp (par : List (Nat × Nat)) (f : Flit) (s : State) : State :=
  let c := f.flow
  match (flow s c).ops.find? (·.read.isSome) with
  | none => s
  | some op =>
    match op.read, tktFind s op.tkt with
    | some d, some (b, k) =>
      let s := respPar b d op.got.length par (modBench b (respData d op.got.length (payload f)) s)
      let st := k.status.worse (if par = [] then .ok else .parity)
      if f.last then
        let s := xferRecord b k.opid d (xferData (bench s b) d) (xferScaleData (bench s b) d) s
        endRemote c op.tkt op.addr op.rows op.mstride st (modFlow c (fun x => { x with ops := x.ops.filter (·.tkt ≠ op.tkt) }) s)
          |> armTimer c
      else
        let s := modTicket b k.n (fun k => { k with status := st }) s
        armTimer c (modFlow c (fun x => { x with
          ops := x.ops.map fun o => if o.tkt = op.tkt then { o with got := o.got ++ payload f } else o }) s)
    | _, _ => s

/-- RESP_RECEIVE (R296). -/
def respReceive (spl : Nat) (par : List (Nat × Nat)) (s : State) : State := takeFlit spl .resp (deliverResp par) s
def execRespReceive (spl : Nat) (s : State) (par : List (Nat × Nat) := []) : Out := .next (respReceive spl par s)

/-- CUM_SEQ returns the credits of the flits it covers (R297, R301). -/
def credits (c cum : Nat) (s : State) : State :=
  let s := modFlow c (fun x => { x with out := x.out.filter fun q => serCmp 16 q cum = .after || serCmp 16 q cum = .undecided }) s
  ctxSet c 5 23 16 (flow s c).out.length s

/-- The entries of a FACK (Table 12-4). -/
def ackEntries (bs : List Byte) : List (Nat × TktStatus) :=
  (chunks 4 (min 62 (leNat (bs.take 2))) (bs.drop 4)).map fun v => (v / 2 ^ 19, statusOf (v / 2 ^ 15 % 16))

/-- A report completes the ticket of the operation it names, if it is outstanding on the context. -/
def ackEntry (c : Nat) (s : State) (e : Nat × TktStatus) : State :=
  match (flow s c).ops.find? (·.tkt = e.1) with
  | some op => endRemote c op.tkt op.addr op.rows op.mstride e.2
      (modFlow c (fun x => { x with ops := x.ops.filter (·.tkt ≠ op.tkt) }) s)
  | none => s

def deliverFack (f : Flit) (s : State) : State :=
  let s := credits f.flow (leNat ((payload f).drop 2 |>.take 2)) s
  armTimer f.flow ((ackEntries (payload f)).foldl (ackEntry f.flow) s)

/-- FACK_RECEIVE (R297). -/
def fackReceive (spl : Nat) (s : State) : State := takeFlit spl .fack deliverFack s
def execFackReceive (spl : Nat) (s : State) : Out := .next (fackReceive spl s)

def deliverCredit (f : Flit) (s : State) : State :=
  armTimer f.flow (credits f.flow (leNat ((payload f).drop 2 |>.take 2)) s)

/-- CREDIT_RECEIVE (R297). -/
def creditReceive (spl : Nat) (s : State) : State := takeFlit spl .credit deliverCredit s
def execCreditReceive (spl : Nat) (s : State) : Out := .next (creditReceive spl s)

/-- The outstanding operations of a context all complete with a status, and nothing of theirs is left to send. -/
def endAll (c : Nat) (st : TktStatus) (s : State) : State :=
  let ops := (flow s c).ops
  let s := modFlow c (fun x => { x with ops := [], txq := x.txq.filter (·.tkt.isNone) }) s
  ops.foldl (fun s op => endRemote c op.tkt op.addr op.rows op.mstride st s) s

def deliverError (f : Flit) (s : State) : State :=
  let c := f.flow
  let s := endAll c .remote (ctxSet c 6 31 30 3 s)
  raiseEv (flowPage c) 0x311 c (leNat ((payload f).drop 2 |>.take 2)) (armTimer c s)

/-- ERROR_RECEIVE (R316). -/
def errorReceive (spl : Nat) (s : State) : State := takeFlit spl .error deliverError s
def execErrorReceive (spl : Nat) (s : State) : Out := .next (errorReceive spl s)

/-! ### Timeouts and contexts (R289 to R292, R303, R463) -/

/-- The flits of a context leave every retry buffer; with `count` they count in SPL_DROP (R289). -/
def dropRetry (p : Nat → Bool) (count : Bool) (s : State) : State :=
  s.splines.foldl (fun s e =>
    let gone := (e.2.rbuf.filter fun f => p f.ctx).length
    if gone = 0 then s
    else
      let s := modSpline e.1 (fun x => { x with rbuf := x.rbuf.filter fun f => !p f.ctx }) s
      if count then satAdd (Rg.SPL_DROP e.1) gone s else s) s

/-- FLOW_TIMEOUT (R303): the timer of a context that waits reaches 0. -/
def flowTimeout (c : Nat) (s : State) : State :=
  if ctxValid s c = false ∨ ctxState s c ≠ 1 ∨ ctxWaits s c = false then s
  else
    let s := endAll c .timeout (ctxSet c 6 31 30 2 s)
    let s := voidBit 3 (dropRetry (· = c) false (modFlow c (fun x => { x with out := [] }) s))
    raiseEv (flowPage c) 0x310 c (ctxDst s c) (satAdd (Rg.FLOW_TIMEOUTS (c / 64)) 1 (armTimer c s))
def execFlowTimeout (c : Nat) (s : State) : Out := .next (flowTimeout c s)

/-- The contexts whose word 0 is listed with bit `k` set. -/
def ctxsWith (k : Nat) (s : State) : List Nat :=
  s.regs.filterMap fun e =>
    let off := e.1 % 0x1000
    if Pg.FLOWTAB 0 ≤ e.1 ∧ e.1 < Pg.FLOWTAB 48 ∧ 0x100 ≤ off ∧ off < 0x900 ∧ off % 32 = 0 ∧ bit e.2 k = true then
      some ((e.1 - Pg.FLOWTAB 0) / 0x1000 * 64 + (off - 0x100) / 32)
    else none

/-- The valid contexts. -/
def validCtxs (s : State) : List Nat := ctxsWith 31 s

/-- Contexts that lead to a child in the seal tree (R310). -/
def childCtxs (s : State) : List Nat := (validCtxs s).filter (ctxSealC s)

/-- The flits of a context that starts anew leave the intake buffers (DESIGN CHOICE, log entry 43). -/
def intakeDrop (c : Nat) (s : State) : State :=
  { s with intake := (s.intake.map fun e => (e.1, e.2.filter (·.1 ≠ c))).filter fun e => !e.2.isEmpty }

/-- The sequence number at which contexts start (R367: a preset in TEST; R292, R289, R291: 0). -/
def resetSeqs (c start : Nat) (s : State) : State :=
  ctxSet c 5 23 16 0 (wr (ctxReg c 4) (word (start * 2 ^ 16 + start)) (intakeDrop c s))

/-- Why a write of word `k` of context `c` is refused (R291, R463, Table 12-1). -/
def ctxBad (c k : Nat) (v : Word) (s : State) : List (Bool × Nat) :=
  let old := rg s (ctxReg c 0)
  let held := (k = 0 || k = 1 || k = 2 || k = 5) && stepHeld s
  let locked := bit old 31 && (k = 1 || k = 2 || k = 5)
  let kept := k = 0 && bit old 31 && bit v 31 && (v ^^^ old) &&& 0x43FFFFFF != 0
  let seals := (ctxsWith 26 s).length
  [(held, rsState), (locked, rsState), (kept, rsState),
   (k = 0 && !bit v 30 && bits v 13 0 = memberId s, rsValue),
   (k = 0 && bit v 30 && bits v 25 14 = 0xFFF, rsValue),
   (k = 0 && bits v 29 28 = 3, rsValue),
   (k = 0 && bit v 26 && !ctxSealC s c && decide (64 ≤ seals), rsValue),
   (k = 1 && bits v 4 0 ≠ 0, rsValue),
   (k = 2 && bits v 31 16 = 0, rsValue),
   (k = 5 && bits v 31 24 = 0, rsValue)]

/-- A write of word `k` of context `c` (R291, R463). -/
def ctxWrite (c k : Nat) (v : Word) (s : State) : State :=
  match lowest (ctxBad c k v s) with
  | some r => refuse (flowPage c) (0x100 + 0x20 * (c % 64) + 4 * k) r v.toNat s
  | none =>
    match k with
    | 0 =>
      let was := ctxValid s c
      let s := wr (ctxReg c 0) v s
      if !was && bit v 31 then
        ctxSet c 6 31 30 1 (resetSeqs c 0 (setFlow c {} (wr (ctxReg c 3) (rg s (Rg.LKD_EPOCH 0)) s)))
      else if was && !bit v 31 then dropRetry (· = c) false (setFlow c {} (ctxSet c 6 31 30 0 s))
      else s
    | 1 | 2 => wr (ctxReg c k) v s
    | 5 => ctxSet c 5 31 24 (bits v 31 24) s
    | _ => s

/-- FLOW_CONTEXT_WRITE (R463). -/
def execFlowContextWrite (c k : Nat) (v : Word) (s : State) : Out :=
  .next (pageCmd (flowPage c) (0x100 + 0x20 * (c % 64) + 4 * k) v (ctxWrite c k v) s)

/-- Both LINKDIE pages take a value (R319). -/
def wrDies (reg : Nat → Nat) (v : Word) (s : State) : State := wr (reg 1) v (wr (reg 0) v s)

/-- EPOCH_CHANGE (R289, R367). -/
def epochChange (tag : BitVec 16) : State → State :=
  command 0x08 tag [.ready, .quiesce, .rest, .test] (fun s =>
    [(stepHeld s, rsState),
     (s.chip != .test && serCmp 32 (rg s (Rg.LKD_EPOCH 0)).toNat (rg s (Rg.LKD_EPOCH_NEXT 0)).toNat != .before, rsValue)])
    fun s =>
      let e := rg s (Rg.LKD_EPOCH_NEXT 0)
      let m := rg s (Rg.LKD_MEMBER 0)
      let s := wrDies Rg.LKD_MEMBER (putBits m 13 0 (bits m 29 16)) (wrDies Rg.LKD_EPOCH e s)
      let cs := validCtxs s
      let s := cs.foldl (fun s c =>
        ctxSet c 6 31 30 1 (resetSeqs c 0 (wr (ctxReg c 3) e (modFlow c (fun x => { x with out := [], cumNew := false }) s)))) s
      let s := dropRetry (fun _ => true) true s
      cmdEnd 0x08 resOk (raiseEv (Pg.LINKDIE 0) 0x316 e.toNat (memberId s) s)
def execEpochChange (tag : BitVec 16) (s : State) : Out := .next (epochChange tag s)

end Sys2Proof.Machine
end

