-- ==== Sys2Proof/Machine/Tables.lean ====
section
/-! DEFINITION. The integer tables and coefficients of R121, each the integer nearest to its formula's value times
2^62, written out. -/

namespace Sys2Proof.Machine

def ktET0 : List Int := [4611686018427387904, 4661903986662671290, 4712668792719003884, 4763986391269842979, 4815862801830788490, 4868304109465667592, 4921316465500308116, 4974906088244084429, 5029079263719320435, 5083842346398635251, 5139201759950318048, 5195163997991819502, 5251735624851448219, 5308923276338361494, 5366733660520940721, 5425173558513642752]
def ktET1 : List Int := [5484249825272419512, 5543969390398799154, 5604339258952723100, 5665366512274234280, 5727058308814112983, 5789421884973557729, 5852464555953009676, 5916193716610220111, 5980616842327661685, 6045741489889385141, 6111575298367424380, 6178125990017853852, 6245401371186603363, 6313409333225136570, 6382157853416100552, 6451654995909055045]
def ktET2 : List Int := [6521908912666391106, 6592927844419550153, 6664720121635655541, 6737294165494670078, 6810658488877194079, 6884821697363019841, 6959792490240559659, 7035579661527265796, 7112192101001162095, 7189638795243608238, 7267928828693418961, 7347071384712461870, 7427075746662858866, 7507951298995917514, 7589707528352920109, 7672354024677899536]
def ktET3 : List Int := [7755900482342532474, 7840356701283281883, 7925732588150922155, 8012038157472581778, 8099283532826439817, 8187478948029213993, 8276634748336579668, 8366761391656660532, 8457869449776733335, 8549969609603290562, 8643072674415606502, 8737189565132953757, 8832331321595618838, 8928509103859867100, 9025734193507008925, 9124017994966720698]
/-- ET[j] := cr62(2^(j/64)), j = 0 to 63 (R121). -/
def ktET : List Int :=
  ktET0 ++ ktET1 ++ ktET2 ++ ktET3
def ktLR0 : List Int := [4611686018427387904, 4558268805858730901, 4523339542978587369, 4488941523640347161, 4455062719688344541, 4421691463361091024, 4388816433893722318, 4356426644713694847, 4324511431199308804, 4293060438972404740, 4262063612698235752, 4231511185367065604, 4201393668033492183, 4171701839990852662, 4142426739359337907, 4113559654067635204]
def ktLR1 : List Int := [4085092113209035652, 4057015878753990733, 4029322937602086360, 4002005493957326452, 3975055962011485870, 3948466958921108038, 3922231298064489380, 3896341982565713873, 3870792199073479683, 3845575311783098708, 3820684856690651467, 3796114536068846635, 3771858213154668701, 3747909907039400963, 3724263787752086131, 3700914171527935120]
def ktLR2 : List Int := [3677855516253617768, 3655082417081768741, 3632589602207419395, 3610371928799422946, 3588424379080277518, 3566742056548070403, 3545320182334568479, 3524154091693765085, 3503239230615463808, 3482571152558735408, 3462145515300326403, 3441958077893327415, 3422004697731626966, 3402281327715882719, 3382784013516937832, 3363508890932795736]
def ktLR3 : List Int := [3344452183335442786, 3325610199203975503, 3306979329740647909, 3288556046566605302, 3270336899494214137, 3252318514373033894, 3234497591006606311, 3216870901137360500, 3199435286497049603, 3182187656920246101, 3165124988518528964, 3148244321913096809, 3131542760523637410, 3115017468911375471, 3098665671174307883, 3082484649392718808]
def ktLR4 : List Int := [3066471742123146243, 3050624342939047296, 3034939899016481500, 3019415909763200265, 3004049925489596192, 2988839546120028616, 2973782419943101520, 2958876242399527076, 2944118754906262602, 2929507743715660803, 2915041038808422971, 2900716512819192392, 2886532079993670669, 2872485695176183220, 2858575352826661752, 2844799086066051334]
def ktLR5 : List Int := [2831154965749187778, 2817641099564227454, 2804255631157746564, 2790996739284660292, 2777862636982144243, 2764851570766771202, 2751961819854105602, 2739191695400026226, 2726539539763074604, 2714003725787152422, 2701582656103916026, 2689274762454239871, 2677078505028143545, 2664992371822598879, 2653014878016654614, 2641144565363336249]
def ktLR6 : List Int := [2629380001597798003, 2617719779861222402, 2606162518139980802, 2594706858719585282, 2583351467652978782, 2572095034242726151, 2560936270536683955, 2549873910836741476, 2538906711220239362, 2528033449073685875, 2517252922638403632, 2506563950567752237, 2495965371495584151, 2485456043615602744, 2475034844271302523, 2464700669556182262]
def ktLR7 : List Int := [2454452433923932024, 2444289069808304976, 2434209527252394440, 2424212773547045798, 2414297792878141725, 2404463585982507746, 2394709169812193313, 2385033577206891522, 2375435856574268216, 2365915071577978564, 2356470300833156294, 2347100637609167601, 2337805189539428324, 2328583078338089356, 2319433439523401382, 2310355422147575936]
/-- LR[0] := 2^62, LR[j] := cr62(256 / (257 + 2j)) (R121). -/
def ktLR : List Int :=
  ktLR0 ++ ktLR1 ++ ktLR2 ++ ktLR3 ++ ktLR4 ++ ktLR5 ++ ktLR6 ++ ktLR7
def ktLL0 : List Int := [0, 77514545317785797, 128693694211618919, 179482158770635972, 229885858540040844, 279910579538916340, 329561978246172450, 378845585438862773, 427766809889382479, 476330941927728378, 524543156874688148, 572408518351530276, 619931981471487744, 667118395918065607, 713972508914954744, 760498968092099876]
def ktLL1 : List Int := [806702324252248894, 852587034042101625, 898157462531978715, 943417885707744614, 988372492878542006, 1033025389003727948, 1077380596942243697, 1121442059627500451, 1165213642170721212, 1208699133895544485, 1251902250306568026, 1294826634994389804, 1337475861479588707, 1379853434997978523, 1421962794229365397, 1463807312971940758]
def ktLL2 : List Int := [1505390301764348411, 1546715009457375921, 1587784624737136023, 1628602277601523817, 1669171040791659156, 1709493931179951192, 1749573911116352967, 1789413889734308267, 1829016724217830286, 1868385221031092105, 1907522137111852115, 1946430181029983335, 1985112014112323992, 2023570251535017408, 2061807463384462292, 2099826175687949651]
def ktLL3 : List Int := [2137628871415019777, 2175217991450531853, 2212595935540399699, 2249765063210909905, 2286727694662502947, 2323486111638863844, 2360042558272136317, 2396399241905043328, 2432558333890667047, 2468521970370612826, 2504292253032254478, 2539871249845732067, 2575260995781348400, 2610463493507986530, 2645480714073147565, 2680314597565186212]
def ktLL4 : List Int := [2714967053758300361, 2749439962740810867, 2783735175527248336, 2817854514654745167, 2851799774764213317, 2885572723166771160, 2919175100395866459, 2952608620745526727, 2985874972795153145, 3018975819921259758, 3051912800796545695, 3084687529876674806, 3117301597875124310, 3149756572226451604, 3182053997538316595, 3214195396032585520]
def ktLL5 : List Int := [3246182267975831151, 3278016092099533848, 3309698326010277709, 3341230406590226327, 3372613750388153245, 3403849754001293195, 3434939794448271489, 3465885229533360530, 3496687398202304367, 3527347620889944444, 3557867199859872195, 3588247419536326928, 3618489546828550506, 3648594831447803599, 3678564506217241868, 3708399787374844169]
def ktLL6 : List Int := [3738101874869578916, 3767671952650988886, 3797111188952369228, 3826420736567708006, 3855601733122553425, 3884655301338966872, 3913582549294716047, 3942384570676857805, 3971062445029855803, 3999617237998373667, 4028050001564880250, 4056361774282199382, 4084553581501132706, 4112626435593280271, 4140581336169179997, 4168419270291883514]
def ktLL7 : List Int := [4196141212686082450, 4223748125942895974, 4251240960720427151, 4278620655940192590, 4305888138979526860, 4333044325860060245, 4360090121432365622, 4387026419556867533, 4413854103281103837, 4440574045013427886, 4467187106693236621, 4493694139957807638, 4520095986305825977, 4546393477257679132, 4572587434512596607, 4598678670102708300]
/-- LL[j] := cr62(-log2(LR[j] / 2^62)) (R121). -/
def ktLL : List Int :=
  ktLL0 ++ ktLL1 ++ ktLL2 ++ ktLL3 ++ ktLL4 ++ ktLL5 ++ ktLL6 ++ ktLL7
def ktRZ0 : List Int := [4593776490504230232, 4558574619336323943, 4524169790800992756, 4490532374086872043, 4457634257974180161, 4425448752083815436, 4393950495858282443, 4363115374569042175, 4332920441718111427, 4303343847266469001, 4274364771179147640, 4245963361827736586, 4218120678836197139, 4190818639996099784, 4164039971913229833, 4137768164079502871]
def ktRZ1 : List Int := [4111987426092736531, 4086682647772437659, 4061839361942729443, 4037443709674163532, 4013482407794702219, 3989942718496847040, 3966812420882936433, 3944079784304215479, 3921733543361553036, 3899762874446784986, 3878157373713719967, 3856907036376964645, 3836002237245005872, 3815433712401512518, 3795192541955666549, 3775270133788568591]
def ktRZ2 : List Int := [3755658208228448295, 3736348783592597861, 3717334162538686336, 3698606919172445661, 3680159886862685301, 3661986146718225312, 3644079016684668573, 3626432041221989660, 3609038981526725310, 3591893806265132126, 3574990682786051464, 3558323968784407529, 3541888204388279128, 3525678104644343215, 3509688552378202833, 3493914591407695540]
def ktRZ3 : List Int := [3478351420088741923, 3462994385174647562, 3447838975971024736, 3432880818769660804, 3418115671545735839, 3403539418903789880, 3389148067258766136, 3374937740239316481, 3360904674301354814, 3347045214540587001, 3333355810693437648, 3319833013316437761, 3306473470134737106, 3293273922550964174, 3280231202306178054, 3267342228285143127]
def ktRZ4 : List Int := [3248290507690880939, 3223399025877599190, 3199071138314706073, 3175285892854553602, 3152023411863006750, 3129264822392010284, 3106992191819384518, 3085188468457053046, 3063837426680687463, 3042923616179526686, 3022432314965660829, 3002349485818023048, 2982661735868278156, 2963356279064226813, 2944420901271685707, 2925843927798427511]
def ktRZ5 : List Int := [2907614193143991410, 2889721012797285745, 2872154156920143400, 2854903825769571463, 2837960626724546402, 2821315552795008606, 2804959962501349396, 2788885561022286452, 2773084382517701371, 2757548773540864397, 2742271377461583199, 2727245119828261832, 2712463194602711131, 2697919051206873010, 2683606382325462591, 2669519112412941368]
def ktRZ6 : List Int := [2655651386857254528, 2641997561756434105, 2628552194267520769, 2615310033490321200, 2602266011851322309, 2589415236955652465, 2576752983877335206, 2564274687860242334, 2551975937404138487, 2539852467712034108, 2527900154476742624, 2516115007986083418, 2504493167527596605, 2493030896074949203, 2481724575239424611, 2470570700471006969]
def ktRZ7 : List Int := [2459565876494606882, 2448706812967932190, 2437990320348393476, 2427413305957254650, 2416972770229999580, 2406665803142591264, 2396489580803954798, 2386441362205623527, 2376518486120052873, 2366718368139631867, 2357038497848911348, 2347476436123023070, 2338029812545688032, 2328696322940607683, 2319473727010400351, 2310359846077589311]
/-- RZ[k] := cr62(1 / sqrt(ck)) (R121). -/
def ktRZ : List Int :=
  ktRZ0 ++ ktRZ1 ++ ktRZ2 ++ ktRZ3 ++ ktRZ4 ++ ktRZ5 ++ ktRZ6 ++ ktRZ7
def ktEP0 : List (List Int) := [[243746325628905626, 5192309002935028229, -243389484512579448, -1723163746253991302, 121516478473687737, 514670689904815745, -40446123789412809, -121998951295633637, 10096701736798452],
  [405715841327224660, 5172066108535601913, -404067664729343899, -1702976845307213976, 201211754596261012, 504605186261031036, -66797227951217287, -118653082414429623, 16631134719739104],
  [566896546024444943, 5141849644926577048, -562389804913844365, -1672942291700557864, 278952299881989046, 489678524390330339, -92240142836927873, -113707620391186561, 22874937638698909],
  [726979365021461620, 5101835453533213450, -717445610653108141, -1633351291845675595, 353993549592268446, 470093250389137578, -116433901003262410, -107248816570199297, 28720587851102300],
  [885661598032461476, 5052255326174744946, -868356384186284288, -1584585939703569907, 425627482255370301, 446113892506014264, -139059270359589148, -99388789998654524, 34069027147309504],
  [1042648634041637746, 4993394768753853275, -1014283312403126446, -1527114057696694385, 493191958952529339, 418062370644115307, -159824162066369798, -90263150271532778, 38831710328234088],
  [1197655588347660203, 4925590263177961482, -1154435217932334722, -1461482918257393194, 556079268794066506, 386312444027774223, -178468464701420929, -80028140078690378, 42932391268754535],
  [1350408846673346298, 4849226064247234968, -1288075673315671788, -1388311954266094777, 613743739197856309, 351283313990056200, -194768207212297908, -68857368557413391, 46308604033400999]]
def ktEP1 : List (List Int) := [[1500647502460169740, 4764730574160600407, -1414529389203928246, -1308284583106922670, 665708289206243249, 313432515588835415, -208538969810143371, -56938216093802819, 48912805327885507],
  [1648124674883154384, 4672572342477962719, -1533187799875581517, -1222139282936537449, 711569826065302848, 273248245209890236, -219638480437245837, -44467998461363021, 50713154163907793],
  [1792608696687225610, 4573255743752987653, -1643513782911229938, -1130660070761847045, 751003409102096037, 231241281170127808, -227968354234063837, -31649982953973281, 51693914777606145],
  [1933884162634843792, 4467316388551964197, -1745045464278111015, -1034666539861563322, 783765129992748591, 187936660397102029, -233474953987272284, -18689351360849559, 51855479251819883],
  [2071752831138606245, 4355316326153905122, -1837399075096178723, -935003618847168108, 809693684215967431, 143865276442705929, -236149370290680169, -5789204222154546, 51214016623665399],
  [2206034373502193723, 4237839098857312302, -1920270841669719637, -832531216198042960, 828710634226442320, 99555562405870218, -236026540532104600, 6853302144871823, 49800765194709367],
  [2336566967078697101, 4115484708490891305, -1993437905675275476, -728113912455989396, 840819390064693424, 55525416911762468, -233183545289463228, 19050599711366198, 47660994003229584],
  [2463207730547141020, 3988864555448560624, -2056758286403164072, -622610857531765892, 846102957175129751, 12274522342159256, -227737138774259889, 30628055303431917, 44852667697669099]]
def ktEP2 : List (List Int) := [[2585833001376660443, 3858596409371009597, -2110169911374770874, -516866022934951318, 844720523604532709, -29722807658006135, -219840586148551354, 41426950551903086, 41444856136064433],
  [2704338457365152198, 3725299468521473027, -2153688755238976594, -411698948425468780, 836902979025562600, -70024129372020717, -209679894475750201, 51307037182041052, 37515935741372458],
  [2818639085878829663, 3589589562012594326, -2187406139351424667, -307896109892681838, 822947475766734720, -108224614250337037, -197469535434862881, 60148621913590600, 33151633830679192],
  [2928669006056573779, 3452074545408446929, -2211485255652286314, -206203020534651696, 803211156899101059, -143961952794999138, -183447766503328175, 67854148403436350, 28442969724046756],
  [3034381150756427635, 3313349935937120284, -2226156988207752691, -107317161010984202, 778104188179711736, -176920352270002268, -167871662954120538, 74349257268276655, 23484147397673557],
  [3135746816392005110, 3173994828700644782, -2231715113930140863, -11881816578794731, 748082239117696144, -206833584778213621, -151011975665658488, 79583318868122136, 18370453801425439],
  [3232755090018075481, 3034568129963725291, -2228510970442110760, 79519119291041630, 713638563532690905, -233487063825040442, -133147929443212883, 83529446820683761, 13196214789167851],
  [3325412164064556241, 2895605137949040857, -2216947683742234406, 166365334260418526, 675295831725845002, -256718948744165590, -114562073416141407, 86184012784582264, 8052857034981353]]
def ktEP3 : List (List Int) := [[3413740549977435495, 2757614495675523956, -2197474051241433152, 248203257830170044, 633597864872102674, -276420296777033740, -95535289301161126, 87565694564587873, 3027119493352679],
  [3497778202698062309, 2621075534357919257, -2170578176890151885, 324648190372131601, 589101417637423221, -292534301704035922, -76342055170427943, 87714099768963974, -1800547895558764],
  [3577577568396532636, 2486436019849662188, -2136780954558303443, 395385415265807285, 542368147564074580, -305054675304892822, -57246052153705798, 86688015854381411, -6357367230420657],
  [3653204568171635375, 2354110308660915882, -2096629493651128207, 460170325635052079, 493956899749350273, -314023243226221659, -38496189600375518, 84563344252767379, -10579373632985483],
  [3724737530543244183, 2224477914317264910, -2050690577261228589, 518827612502708434, 444416423115775694, -319526839774754817, -20323111025089486, 81430781272919062, -14412298008973890],
  [3792266085500315731, 2097882479331742734, -1999544238113067294, 571249574857097265, 394278620519853683, -321693596530323396, -2936229074306153, 77393311555728823, -17812183074644333],
  [3855890032638608947, 1974631142923600584, -1943777531315419325, 617393623951210404, 344052419483320071, -320688727356920399, 13478676801770820, 72563581044006814, -20745731658642299],
  [3915718195539031918, 1854994289900733878, -1883978575680432845, 657279063983381779, 294218333881083222, -316709917334204593, 28761280895894987, 67061215771983947, -23190393437654225]]
def ktEP4 : List (List Int) := [[3971867274014295808, 1739205661886506627, -1820730927287436625, 690983239040521269, 245223769910539357, -309982425362194736, 42777945207538710, 61010150403624817, -25134202845421263],
  [4024460705204058118, 1627462808361139715, -1754608340264353756, 718637141777957690, 197479112515104268, -300754009805526023, 55422375603166443, 54536026516411771, -26575386740537276],
  [4073627543743940765, 1519927851835630429, -1686169960630152507, 740420582770840149, 151354611537683774, -289289783701099219, 66615721521086642, 47763715339560149, -27521765395010416],
  [4119501370389510431, 1416728538902653876, -1615955989685839578, 756557020856055887, 107178070604977153, -275867100970337592, 76306151853436531, 40815013243082462, -27989974374405561],
  [4162219237560751756, 1317959546922219817, -1544483844049476348, 767308154189580125, 65233326421035012, -260770568016734199, 84467949419260793, 33806550987118740, -28004537860063328],
  [4201920659304062796, 1223684014696607418, -1472244830181855800, 772968369309494367, 25759492064542562, -244287266348909418, 91100174558132531, 26847949840620375, -27596825889741783],
  [4238746652165393978, 1133935264655093143, -1399701342308630598, 773859141389779549, -11049074723627699, -226702261772142688, 96224954717963597, 20040249427656931, -26803928875665348],
  [4272838832447275243, 1048718683780266034, -1327284584159399199, 770323473291071063, -45042128222206174, -208294464574829443, 99885461435094484, 13474623814352308, -25667482641637300]]
def ktEP5 : List (List Int) := [[4304338574300682986, 968013730731707005, -1255392807042682522, 762720454178416929, -76112275492089720, -189332893342003536, 102143638815527537, 7231394151271144, -24232476175809771],
  [4333386232095404169, 891776037319551254, -1184390049565029009, 751420010612519017, -104193167609032907, -170073382891456973, 103077748579980873, 1379338355264871, -22546072419696012],
  [4360120429533829129, 819939573603995591, -1114605357867931507, 736797914366481064, -129257213131657096, -150755764669605773, 102779796034357008, -4024708955104547, -20656469823400905],
  [4384677417035504255, 752418847396561575, -1046332459660843440, 719231102011719747, -151312889063909407, -131601536061716317, 101352899112317259, -8935979602848360, -18611829222408091],
  [4407190498034222847, 689111110761038722, -979829860613351933, 699093351786060279, -170401726247618252, -112812023732485203, 98908659080907333, -13321637101026889, -16459286971938777],
  [4427789524005133194, 629898548200774300, -915321327854250155, 676751353625213404, -186595046083569062, -94567035551489504, 95564586800871145, -17160407781554656, -14244071353650914],
  [4446600457283749177, 574650423518011419, -852996722409548200, 652561198711778266, -199990523865715199, -77023986068265081, 91441632804217713, -20442005324820886, -12008735187396045],
  [4463745000057558210, 523225164784574239, -793013140376620332, 626865305660685380, -210708650987114696, -60317472037267330, 86661863115391684, -23166378929488404, -9792513472761038]]
def ktEP6 : List (List Int) := [[4479340287308114259, 475472369417326027, -735496321442426197, 599989791681726674, -218889164023026742, -44559267265270206, 81346315923128748, -25342817063580365, -7630810875792548],
  [4493498640959410772, 431234713955116312, -680542282960417930, 572242288879567593, -224687503415561161, -29838700132797295, 75613067126506553, -26988939461434402, -5554820076643077],
  [4506327382047727975, 390349755738512865, -628219138141669143, 543910198384994896, -228271358382369199, -16223372556848297, 69575525638191029, -28129609840930507, -3591268498746908],
  [4517928697368386889, 352651616255776356, -578569057919633084, 515259368347673233, -229817347957823005, -3760175906980623, 63340972321216163, -28795800797717547, -1762287826464626],
  [4528399556773970643, 317972538399267779, -531610337636275818, 486533176024009829, -229507880953812111, 7523442580658900, 57009349732836863, -29023440590991156, -85398043949207],
  [4537831677093503618, 286144312241834791, -487339531786874879, 457951989302402588, -227528230294702244, 17618010097545128, 50672303596126750, -28852269183840279, 1426404467833405],
  [4546311528508743486, 256999566164050157, -445733622565774491, 429712979036993370, -224063849820051191, 26530402101562503, 44412471237047829, -28324728062778166, 2764466936245686],
  [4553920379157261658, 230372922217201587, -406752190789746551, 401990250503030308, -219297954425624260, 34282105162188041, 38303007204503716, -27484905161126259, 3924221660670449]]
def ktEP7 : List (List Int) := [[4560734373726842099, 206102016475726172, -370339560854820466, 374935260115428292, -213409377475014951, 40907412025538508, 32407331998874151, -26377552773359737, 4904862999434662],
  [4566824641855915891, 184028386803599350, -336426894625330062, 348677482223421230, -206570712886402614, 46451589131155542, 26779086309576122, -25047192791140038, 5708974192559409],
  [4572257432253948098, 163998231924214035, -304934212484085472, 323325290250326271, -198946743284905048, 50969053243050248, 21462270418042494, -23537320026977991, 6342118159567159],
  [4577094268597411645, 145863046939299626, -275772323119613355, 298967016618912791, -190693150191028213, 54521589846291249, 16491546449892726, -21889710917734612, 6812405865269202],
  [4581392123434693182, 129480141490399403, -248844646926861352, 275672156711574640, -181955497447741638, 57176641649478992, 11892679929366957, -20143841603947985, 7130054982211107],
  [4585203606540541212, 114713047601045935, -224048921095792841, 253492683476464950, -172868475008887689, 59005691057754022, 7683096553311442, -18336416334423265, 7306950455440158],
  [4588577164391248728, 101431824886985014, -201278777510110887, 232464441118755857, -163555386835811948, 60082755965298976, 3872530200003134, -16501004405727724, 7356217254403316],
  [4591557287679714867, 89513271286267354, -180425187436382635, 212608588522216714, -154127863974585654, 60483013772844669, 463738847926162, -14667781455063351, 7291814138570625]]
def ktEP8 : List (List Int) := [[4594184724049275733, 78841047753637324, -161377769620726397, 193933065543737122, -144685781893842995, 60281564262462815, -2546733778218060, -12863368909455882, 7128155725896640],
  [4596496693491587139, 69305725498992163, -144025960802593088, 176434058028928453, -135317359819819108, 59552337941546098, -5167771476306733, -11110763767263377, 6879768590526780],
  [4598527104122211520, 60804764343577515, -128260049787233822, 160097440232105056, -126099419065720361, 58367152767070038, -7412892538487357, -9429349649767599, 6560985576902637],
  [4600306766313745001, 53242430636602966, -113972078081478223, 144900176216575226, -117097777162977097, 56794918830826572, -9299467130618817, -7834979199773687, 6185681043940062],
  [4601863603426680062, 46529662936021600, -101056611689171913, 130811664696272966, -108367754901384953, 54900987661696288, -10847959552212888, -6340117399700345, 5767048380557023],
  [4603222857629625147, 40583893327197643, -89411389986482307, 117795014600246674, -99954774108423458, 52746640302974170, -12081207543583734, -4954035204672541, 5317419890484348],
  [4604407289540407814, 35328831848588233, -78937858661689333, 105808241348611992, -91895025077756015, 50388706258660841, -13023748494830168, -3683043001642251, 4848128050590780],
  [4605437370645891621, 30694221030231711, -69541594521618721, 94805376381951039, -84216183925472671, 47879303767874297, -13701200152904022, -2530753774325354, 4369406216325546]]
def ktEP9 : List (List Int) := [[4606331467669439595, 26615567043710866, -61132630553523395, 84737484853845744, -76938161743997340, 45265690646143833, -14139701269221248, -1498366434012564, 3890326087042348],
  [4607106018249709936, 23033853425207151, -53625690005560399, 75553588554394486, -70073869174746365, 42590214102664207, -14365415622656005, -584960525444998, 3418768653537410],
  [4607775697472138147, 19895242778918435, -46940338431510682, 67201493064924198, -63629981872857538, 39890347473032042, -14404101023632981, 212205607173532, 2961424925386518],
  [4608353574954684041, 17150771307796338, -41001062657700621, 59628519841444919, -57607694237076923, 37198801661771332, -14280743277670184, 897400146677383, 2523822467373813],
  [4608851262332174406, 14756040462213630, -35737285494423635, 52782145383800284, -52003450677554445, 34543699228740783, -14019253675854343, 1476132563502595, 2110373649624861],
  [4609279051109113867, 12670909453349895, -31083324752748960, 46610550871608231, -46809645552540650, 31948799436948044, -13642227392243550, 1954882725944978, 1724441519424103],
  [4609646040959674677, 10859191853961278, -26978304762185049, 41063086644381896, -42015284687006453, 29433763164398094, -13170759203982117, 2340848264874665, 1368419316698455],
  [4609960258646421078, 9288359010620606, -23366028136092461, 36090656683031530, -37606603063761442, 27014447328000493, -12624312202830695, 2641713127213016, 1043819861338124]]
def ktEP10 : List (List Int) := [[4610228767807048521, 7929252523054015, -20194815019653194, 31646028827768148, -33567634828809936, 24703219333519678, -12020634625669994, 2865439343139105, 751371320164932],
  [4610457769922019497, 6755807611253231, -17417316497762236, 27684076860111100, -29880733161566219, 22509283014831833, -11375719581120115, 3020083199823458, 491116196068097],
  [4610652696826542203, 5744788791918763, -14990308253913022, 24161960802729940, -26527038816840712, 20439008524258511, -10703802271504827, 3113636271045471, 262510754132644],
  [4610818295169008358, 4875538923822407, -12874469970718543, 21039251869678300, -23486897243945116, 18496259653013539, -10017389283694261, 3153891104688726, 64522493354817],
  [4610958703245952882, 4129742357339153, -11034155361015550, 18278008451029230, -20740225128041679, 16682713070285775, -9327314627412154, 3148330822346296, -104276326686523],
  [4611077520661994214, 3491202636414032, -9437157126556681, 15842809359677674, -18266827983003797, 14998164948719553, -8642817413534835, 3104041437246206, -245620699613716],
  [4611177871273214413, 2945634950692448, -8054470568299663, 13700750323232111, -16046671059777347, 13440821374661840, -7971636366173031, 3027645345677004, -361471642770026],
  [4611262459875160808, 2480473320027375, -6860059025700710, 11821409388626559, -14060106328309927, 12007569809104889, -7320116730219256, 2925254187931016, -453942586184338]]
def ktEP11 : List (List Int) := [[4611333623093162443, 2084692311244308, -5830623808011425, 10176786538273200, -12288058655279286, 10694229659111741, -6693325551201574, 2802439100502034, -525233918118105],
  [4611393374923958934, 1748642935741601, -4945380802644216, 8741222409738248, -10712174546222420, 9495780732492638, -6095171749034269, 2664216283522003, -577575937273001],
  [4611443447364669594, 1463902253852829, -4185845507110434, 7491300579978321, -9314936962234278, 8406568976561959, -5528527865856476, 2515045776942399, -613180211927637],
  [4611485326548743098, 1223136115379924, -3535627833520093, 6405737432386038, -8079749771572081, 7420489443664407, -4995350826944921, 2358841366023997, -634199135856153],
  [4611520284789498858, 1019974392731832, -2980237678763321, 5465263180847109, -6990995368681050, 6531146882891844, -4496799501168256, 2198989611447465, -642693299629532],
  [4611549408910895715, 848898011075797, -2506901938958212, 4652497188632047, -6034068900436770, 5731994732051321, -4033347274246547, 2038376112157114, -640606162429234],
  [4611573625222856117, 705137046273772, -2104393372473287, 3951820298558721, -5195392394264496, 5016453581085625, -3604888246880272, 1879417250727226, -629745411506851],
  [4611593721475370553, 584579143668677, -1762871480125854, 3349246490280128, -4462411896916887, 4378010403571956, -3210836035246057, 1724095833089217, -611770330897906]]
def ktEP12 : List (List Int) := [[4611610366102168378, 483687506659230, -1473735371852341, 2832295805188657, -3823580516766315, 3810300013252349, -2850214479821733, 1573999209189491, -588184464448722],
  [4611624125041356974, 399427711260037, -1229488423722300, 2389870132426791, -3268330026114008, 3307170304924835, -2521739857985184, 1430358641787604, -560332846852006],
  [4611635476397425055, 329202619453304, -1023614394862618, 2012133132866201, -2787033431715382, 2862732890836146, -2223894445690446, 1294088871344364, -529403086293286],
  [4611644823186640475, 270794688245154, -850464567769938, 1690395292686589, -2370960668790263, 2471400752361792, -1954991484284680, 1165827000960976, -496429609590834],
  [4611652504386356021, 222315001271935, -705155394659418, 1417004844532917, -2012229322406617, 2127914499443520, -1713231781665707, 1045969992743233, -462300421611887],
  [4611658804488226542, 182158384073608, -583476073985775, 1185245071632588, -1703752035374642, 1827358773833984, -1496752314712422, 934710222819497, -427765781750228],
  [4611663961735952248, 148964001457416, -481805442213830, 989238317621098, -1439182027706593, 1565170253059076, -1303667305024224, 832068684420523, -393448258145109],
  [4611668175209972772, 121580874586168, -397037543570455, 823856860619455, -1212857932373386, 1337138615976899, -1132102315633617, 737925555574366, -359853682255574]]
def ktEP13 : List (List Int) := [[4611671610904588731, 99037795578548, -326515232298025, 684640672462184, -1019748947745873, 1139401723101215, -980221965884207, 652047959387661, -327382589908505],
  [4611674406927298446, 80517157696318, -267971165458058, 567721970794628, -855401120206083, 968436150035959, -846251888557854, 574114840450469, -296341797938300],
  [4611676677935700662, 65332258950913, -219475557413222, 469756380806392, -715885401747995, 821044094356951, -728495561027329, 503738960960588, -266955826345530],
  [4611678518914104348, 52907675655617, -179390087769825, 387860452344503, -597747977192015, 694337558363320, -625346634024006, 440486085433775, -239377933207972],
  [4611680008379963838, 42762339662075, -146327381031164, 319555224756650, -497963223680027, 585720594985041, -535297360673472, 383891474352477, -213700582412798],
  [4611681211099370320, 34494988437286, -119115506947503, 262715493806303, -413889550792444, 492870293890172, -456943697651848, 333473846013018, -189965211988744],
  [4611682180381019157, 27771690535753, -96766984210515, 215524410227091, -343228272039005, 413717081086236, -388987612259550, 288746993493811, -168171213022417],
  [4611682960009271130, 22315180254985, -78451805583930, 176433025919008, -283985576511945, 346424809194221, -330237086204626, 249229261483701, -148284065699918]]
def ktEP14 : List (List Int) := [[4611683585869065436, 17895764250574, -63474038826254, 144124399557723, -234437601898564, 289371027826271, -279604260934151, 214451097089217, -130242609975475],
  [4611684087308452381, 14323589604115, -51251594052226, 117481876777374, -193098555487946, 241127744508911, -236102122143530, 183960891058303, -113965453941598],
  [4611684488278323444, 11442087302243, -41298783856535, 95561169554040, -158691786894044, 200442916462065, -198840074030010, 157329322423908, -99356543488804],
  [4611684808283456175, 9122427352985, -33211337081962, 77565873591684, -130123683578376, 166222852133504, -167018708061946, 134152411598124, -86309932712474],
  [4611685063174193685, 7258841918817, -26653560170656, 62826080194812, -106460236550778, 137515648375511, -139924027379403, 114053475539281, -74713806221220],
  [4611685265803878935, 5764690987433, -21347371312836, 50779759266087, -86906107578503, 113495744070831, -116921347066498, 96684164751409, -64453812527373],
  [4611685426573501444, 4569161348938, -17062961912441, 40956611811535, -70786019646036, 93449633302806, -97449052882779, 81724746411464, -55415772566625],
  [4611685553881831236, 3614504128991, -13610867110730, 32964112932899, -57528288177897, 76762750188088, -81012366878233, 68883781581650, -47487829602122]]
def ktEP15 : List (List Int) := [[4611685654496558717, 2853728973466, -10835252196129, 26475489130296, -46650310663754, 62907512581487, -67177237767277, 57897327856111, -40562106797216],
  [4611685733859580645, 2248684325126, -8608244682124, 21219396340795, -37745835914511, 51432492341857, -55564447004854, 48527782401593, -34535937036199],
  [4611685796337526650, 1768463208747, -6825162696259, 16971087117667, -30473840440288, 41952665044394, -45843998101159, 40562464562285, -29312726538698],
  [4611685845426867081, 1388082676897, -5400509164802, 13544876420572, -24548847690294, 34140681291849, -37729836666288, 33812022296162, -24802509811583],
  [4611685883921444517, 1087392687334, -4264618195639, 10787735428236, -19732535542760, 27719094504234, -30974931774862, 28108732895526, -20922248825833],
  [4611685914048994981, 850176801637, -3360855168970, 8573861459344, -15826487984411, 22453475687547, -25366735229935, 23304755847490, -17595924262059],
  [4611685937582141281, 663412822497, -2643285464635, 6800089407937, -12665957962497, 18146343680348, -20723023910463, 19270384378941, -14754461459148]]
/-- EP[j], j = 1 to 127 (R121); the list starts at j = 1. -/
def ktEP : List (List Int) :=
  ktEP0 ++ ktEP1 ++ ktEP2 ++ ktEP3 ++ ktEP4 ++ ktEP5 ++ ktEP6 ++ ktEP7 ++ ktEP8 ++ ktEP9 ++ ktEP10 ++ ktEP11 ++ ktEP12 ++ ktEP13 ++ ktEP14 ++ ktEP15
/-- EC of R121. -/
def ktEC : List Int := [4611686018427387904, 3196577161300663915, 1107849223398934356, 255967521894832113, 44355791529079737]
/-- LD of R121. -/
def ktLD : List Int := [0, 6653256548922161246, -3326628274461080623, 2217752182974053749, -1663314137230540311, 1330651309784432249, -1108876091487026874, 950465221274594464]
/-- RC of R121. -/
def ktRC : List Int := [4611686018427387904, 2305843009213693952, 1729382256910270464, 1441151880758558720, 1261007895663738880, 1134907106097364992]
/-- TH of R121. -/
def ktTH : List Int := [4611686018427387904, -1537228672809129301, 614891469123651721, -248884642264335220]
/-- EZ of R121. -/
def ktEZ : List Int := [5203730428379116615, -1734576809459705538, 520373042837911661, -123898343532836110]
/-- RS[i] := 2^62, i = 0 to 6 (R121). -/
def ktRS : List Int := List.replicate 7 (2 ^ 62)
def ktLog2E : Int := 6653256548922161246
def ktLn2 : Int := 3196577161300663915

end Sys2Proof.Machine
end

