-- ==== Sys2Proof/Machine/Kernels.lean ====
section
/-! DEFINITION. The integer kernels of the transcendental functions (R120, R122) and of GUMBEL (R127). -/

namespace Sys2Proof.Machine

/-- horner of R122, on the coefficients from the constant one up. -/
def horner : List Int → Int → Nat → Int
  | [], _, _ => 0
  | [c], _, _ => c
  | c :: t, z, sh => c + horner t z sh * z / 2 ^ sh

/-- normalise of R122 on the exact value mag × 2^lsb. -/
def normalise (mag : Nat) (lsb : Int) : Int × Int :=
  let e := msb mag + lsb
  (scaleFloor mag (lsb + 62 - e), e)

/-- exp2_k of R122. -/
def exp2K (t : Int) : Int × Int :=
  let n := t / 2 ^ 46
  let f := t - n * 2 ^ 46
  (ktET.getD (f / 2 ^ 40).toNat 0 * horner ktEC (f % 2 ^ 40) 46 / 2 ^ 62, n - 62)

/-- log2_k of R122, as a signed value times 2^−62. -/
def log2K (m e : Int) : Int :=
  let j := (m / 2 ^ 55 % 128).toNat
  let u := m * ktLR.getD j 0 / 2 ^ 62 - 2 ^ 62
  e * 2 ^ 62 + ktLL.getD j 0 + horner ktLD u 62

/-- recip_k of R122. -/
def recipK (m e : Int) : Int × Int :=
  let r := ktLR.getD (m / 2 ^ 55 % 128).toNat 0
  let u := 2 ^ 62 - m * r / 2 ^ 62
  (r * horner ktRS u 62 / 2 ^ 62, -62 - e)

/-- rsqrt_k of R122. -/
def rsqrtK (m e : Int) : Int × Int :=
  let od := e % 2
  let mm := m * 2 ^ od.toNat
  let r := ktRZ.getD (64 * od + m / 2 ^ 56 % 64).toNat 0
  let u := 2 ^ 62 - mm * (r * r / 2 ^ 62) / 2 ^ 62
  (r * horner ktRC u 62 / 2 ^ 62, -62 - (e - od) / 2)

/-- mag × 2^lsb + 1, as a magnitude and its weight. -/
def plusOne (y l : Int) : Nat × Int :=
  let lo := min l 0
  ((y * 2 ^ (l - lo).toNat + 2 ^ (-lo).toNat).toNat, lo)

/-- The functions of VTRF, by FN (Table 7-12). -/
inductive Trf where
  | exp2 | log2 | recip | rsqrt | tanh | sigmoid | softplus | erf
  deriving DecidableEq, Repr

def trfOf (fn : Nat) : Trf :=
  match fn with
  | 0 => .exp2 | 1 => .log2 | 2 => .recip | 3 => .rsqrt | 4 => .tanh | 5 => .sigmoid | 6 => .softplus | _ => .erf

/-- sig × 2^lsb ≥ k. -/
def geVal (sig : Nat) (lsb : Int) (k : Nat) : Bool := decide (k ≤ scaleFloor sig lsb)

/-- The common step of tanh, sigmoid and softplus: normalise(y × 2^l + 1). -/
def onePlus (yl : Int × Int) : Int × Int := let p := plusOne yl.1 yl.2
  normalise p.1 p.2

/-- kern of R122 on a finite nonzero operand: sign, magnitude and weight of the result. -/
def kern (fn : Trf) (d : Dec) : Bool × Int × Int :=
  let a : Int := d.sig
  let v := signed d.neg d.sig
  let top := msb d.sig + d.lsb
  match fn with
  | .exp2 =>
    if 10 ≤ top then (false, 1, if d.neg then -1024 else 1024)
    else let r := exp2K (scaleFloor v (d.lsb + 46))
      (false, r.1, r.2)
  | .log2 => let n := normalise d.sig d.lsb
    let r := log2K n.1 n.2
    (r < 0, r.natAbs, -62)
  | .recip => let n := normalise d.sig d.lsb
    let r := recipK n.1 n.2
    (d.neg, r.1, r.2)
  | .rsqrt => let n := normalise d.sig d.lsb
    let r := rsqrtK n.1 n.2
    (false, r.1, r.2)
  | .tanh =>
    if geVal d.sig d.lsb 10 then (d.neg, 1, 0)
    else if top < -4 then (d.neg, a * horner ktTH (scaleFloor (a * a) (2 * d.lsb + 62)) 62, d.lsb - 62)
    else
      let n := onePlus (exp2K (scaleFloor (2 * a * ktLog2E) (d.lsb - 16)))
      let r := recipK n.1 n.2
      (d.neg, 2 ^ (-r.2).toNat - 2 * r.1, r.2)
  | .sigmoid =>
    if d.neg = false ∧ geVal d.sig d.lsb 18 = true then (false, 1, 0)
    else if d.neg = true ∧ geVal d.sig d.lsb 90 = true then (false, 1, -200)
    else
      let n := onePlus (exp2K (scaleFloor (-v * ktLog2E) (d.lsb - 16)))
      let r := recipK n.1 n.2
      (false, r.1, r.2)
  | .softplus =>
    let t := scaleFloor (v * ktLog2E) (d.lsb - 16)
    if d.neg = false ∧ geVal d.sig d.lsb 32 = true then (d.neg, a, d.lsb)
    else if d.neg = true ∧ geVal d.sig d.lsb 90 = true then (false, 1, -200)
    else if 30 * 2 ^ 46 < t then (d.neg, a, d.lsb)
    else
      let r := exp2K t
      if t < -30 * 2 ^ 46 then (false, r.1, r.2)
      else
        let n := onePlus r
        let w := log2K n.1 n.2
        (false, w.natAbs * ktLn2, -124)
  | .erf =>
    if geVal d.sig d.lsb 4 then (d.neg, 1, 0)
    else if top < -5 then (d.neg, a * horner ktEZ (scaleFloor (a * a) (2 * d.lsb + 62)) 62, d.lsb - 62)
    else
      let j := (scaleFloor a (d.lsb + 5)).toNat
      (d.neg, horner (ktEP.getD (j - 1) []) (scaleFloor a (d.lsb + 62) - (2 * j + 1) * 2 ^ 56) 62, -62)

/-- VTRF of one element (R120, Table 5-5): the kernel's result rounded once with RNE. -/
def trfEl (md : NumMode) (fn : Trf) (d : Dec) (fout : Nat) : Nat × Nev :=
  let num (neg : Bool) (m : Nat) (l : Int) : Nat × Nev := roundTo md fout neg m l .rne 0
  let zero (neg : Bool) : Nat × Nev := (encZero fout neg, nevNone)
  let inf (neg : Bool) : Nat × Nev := (encInf fout neg, nevNone)
  let ker : Nat × Nev := let r := kern fn d
    num r.1 r.2.1.natAbs r.2.2
  match d.cls with
  | .nan => nanInto fout
  | .inf =>
    match fn with
    | .exp2 => if d.neg then zero false else inf false
    | .log2 => if d.neg then nanInto fout else inf false
    | .recip => zero d.neg
    | .rsqrt => if d.neg then nanInto fout else zero false
    | .tanh | .erf => num d.neg 1 0
    | .sigmoid => if d.neg then zero false else num false 1 0
    | .softplus => if d.neg then zero false else inf false
  | .zero =>
    match fn with
    | .exp2 => num false 1 0
    | .log2 => inf true
    | .recip | .rsqrt => inf d.neg
    | .tanh | .erf => zero d.neg
    | .sigmoid => num false 1 (-1)
    | .softplus => num false ktLn2.toNat (-62)
  | .fin =>
    match fn with
    | .log2 | .rsqrt => if d.neg then nanInto fout else ker
    | _ => ker

/-- GUMBEL of R127 from the 64-bit draw. -/
def gumbel (md : NumMode) (g : Nat) : Nat × Nev :=
  let u := 2 * (g / 2 ^ 41) + 1
  let n1 := normalise u (-24)
  let w1 := log2K n1.1 n1.2
  let n2 := normalise (w1.natAbs * ktLn2.toNat) (-124)
  let w2 := log2K n2.1 n2.2
  roundTo md fFp32 (decide (0 ≤ w2)) (w2.natAbs * ktLn2.toNat) (-124) .rne 0

end Sys2Proof.Machine
end

