-- ==== Sys2Proof/Machine/Control.lean ====
section
/-! DEFINITION. Control and synchronisation instructions (Table 7-9, R140, R141, R144 to R147, R155, R175). -/

namespace Sys2Proof.Machine



/-- NOP (R168): does nothing and completes at issue. -/
def spNop : ISpec := { opc := 0x00, run := fun _ _ _ _ _ s => s }
def execNop (b : Nat) (t : Stream) (w : IWord) (s : State) : Out := .next (issue spNop b t w s)

/-- LOOP (R175). -/
def spLoop : ISpec where
  opc := 0x01
  map := { ix := true, imm := true, opid := true }
  legal := fun _ w _ => decide (1 ≤ w.imm.toNat ∧ w.imm.toNat ≤ 16383)
  rules := fun b t _ s => [((str s b t).loops.length = 8, xIllegal)]
  run := fun b t w pc _ s =>
    let cnt := if w.ix then (str s b t).qb.toNat % 2 ^ 32 else w.opid.toNat
    if cnt = 0 then modStr b t (fun x => { x with pc := pc + w.imm.toNat + 2 }) s
    else modStr b t (fun x => { x with loops := { start := pc + 1, cnt := cnt, len := w.imm.toNat } :: x.loops }) s
def execLoop (b : Nat) (t : Stream) (w : IWord) (s : State) : Out := .next (issue spLoop b t w s)

/-- ENDL (R175). -/
def spEndl : ISpec where
  opc := 0x02
  rules := fun b t _ s => [((str s b t).loops = [], xIllegal)]
  run := fun b t _ _ _ s =>
    match (str s b t).loops with
    | [] => s
    | l :: rest =>
      if l.cnt = 1 then modStr b t (fun x => { x with loops := rest }) s
      else modStr b t (fun x => { x with loops := { l with cnt := l.cnt - 1 } :: rest, pc := l.start }) s
def execEndl (b : Nat) (t : Stream) (w : IWord) (s : State) : Out := .next (issue spEndl b t w s)

/-- The gauge has passed mark `v` for the benches, which see it 8 gt later (R241). -/
def markPassed (s : State) (v : DWord) : Bool := decide (v.toNat ≤ s.gauge.toNat - 8)

/-- WAITG (R140, R175): a mark that has passed completes at once and is counted late; otherwise the stream waits, its
program counter still at the WAITG. -/
def spWaitg : ISpec where
  opc := 0x03
  map := { ix := true, d := true, imm := true, opid := true }
  run := fun b t w pc _ s =>
    let v := iwLow w + (if w.ix then (str s b t).qb else 0)
    if markPassed s v then satAdd (Rg.SEQ_WAITG_LATE b) 1 s
    else modStr b t (fun x => { x with pc := pc, state := .wait, wait := some (.mark v) }) s
def execWaitg (b : Nat) (t : Stream) (w : IWord) (s : State) : Out := .next (issue spWaitg b t w s)

/-- The freeze is armed for identifier `id` (R155). -/
def freezeArmed (s : State) (id : Nat) : Bool :=
  bit (rg s Rg.HOLD_FREEZE_CTL) 31 && bits (rg s Rg.HOLD_FREEZE_CTL) 15 0 == id

/-- HOLDPT (R155): no effect unless the freeze is armed for its identifier; the stream is then HELD at it, and the freeze is
in progress. -/
def spHoldpt : ISpec where
  opc := 0x04
  map := { imm := true }
  run := fun b t w pc _ s =>
    if inTest s b = false ∧ freezeArmed s w.imm.toNat then
      wr Rg.HOLD_FREEZE_STAT (rg s Rg.HOLD_FREEZE_STAT ||| 0x20000000)
        (modStr b t (fun x => { x with pc := pc, state := .held }) s)
    else s
def execHoldpt (b : Nat) (t : Stream) (w : IWord) (s : State) : Out := .next (issue spHoldpt b t w s)

/-- TRAP (R175): raises USER with its op ID. -/
def spTrap : ISpec where
  opc := 0x05
  map := { imm := true, opid := true }
  run := fun b t w pc _ s => execTrap b t pc w.opid xUser s
def execTrapI (b : Nat) (t : Stream) (w : IWord) (s : State) : Out := .next (issue spTrap b t w s)

/-- An earlier instruction of stream `t` has not completed (R141, R168): a ticket, a drain, an outfeed entry not yet visible, or
a tap of it. -/
def outstanding (x : Bench) (t : Stream) : Bool :=
  x.tickets.any (·.stream = t) || (match x.drain with | some d => d.stream = t | none => false)
    || x.reading.any (·.str = t) || (match x.tap with | some p => p.stream = t | none => false)

/-- SEAL (R141): DONE, once every earlier instruction of the stream has completed. -/
def spSeal : ISpec where
  opc := 0x06
  hold := fun b t _ s => if outstanding (bench s b) t then some (none, s) else none
  run := fun b t _ _ _ s => modStr b t (fun x => { x with state := .done }) s
def execSeal (b : Nat) (t : Stream) (w : IWord) (s : State) : Out := .next (issue spSeal b t w s)

/-- A bench in TEST is not connected to the clamp network: an instruction that names a global clamp is ILLEGAL (R104). -/
def testClampOk (b : Nat) (w : IWord) (s : State) : Bool := !(inTest s b && w.g)

/-- CLSET (R145): the set takes part in the clamp's next update. -/
def spClset : ISpec where
  opc := 0x10
  map := { cq := 0xFF, g := true, imm := true }
  legal := testClampOk
  run := fun b t w pc _ s => clampAsk b w.g { n := w.cq.toNat, src := some t, v := w.imm.toNat, op := some (t, pc) } s
def execClset (b : Nat) (t : Stream) (w : IWord) (s : State) : Out := .next (issue spClset b t w s)

/-- CLADD (R145): the add takes part in the clamp's next update. -/
def spCladd : ISpec where
  opc := 0x11
  map := { cq := 0xFF, g := true, imm := true }
  legal := testClampOk
  run := fun b t w pc _ s => clampAsk b w.g { n := w.cq.toNat, src := none, v := w.imm.toNat, op := some (t, pc) } s
def execCladd (b : Nat) (t : Stream) (w : IWord) (s : State) : Out := .next (issue spCladd b t w s)

/-- CLWAIT (R144, R145): a threshold of 0 is satisfied at once; otherwise the stream waits for an update of the clamp that
reaches the threshold. -/
def spClwait : ISpec where
  opc := 0x12
  map := { cq := 0xFF, g := true, imm := true, mod := 1 }
  legal := testClampOk
  run := fun b t w pc _ s =>
    if w.imm = 0 then s
    else
      let k := WaitFor.clamp w.g w.cq.toNat w.imm.toNat (w.mod.getLsbD 0) w.opid
      modStr b t (fun x => { x with pc := pc, state := .wait, wait := some k }) s
def execClwait (b : Nat) (t : Stream) (w : IWord) (s : State) : Out := .next (issue spClwait b t w s)

/-- The physical bench whose queue a QPUSH names (R147, R193). -/
def pushTarget (s : State) (b : Nat) (w : IWord) : Option Nat :=
  if w.mod.getLsbD 0 then physOf s (w.aux.toNat % 128) else some b

/-- Entries of queue `q` present or in flight (R147). A QPUSH into a queue of its own bench counts the entries in flight from a
neighbour too: DESIGN CHOICE, log entry 73. -/
def queueLoad (x : Bench) (q : Nat) : Nat :=
  (spGet [] q x.queues).length + (x.flights.filter (·.q = q)).length

/-- A queue stall: counted, and the stream waits (R147, R154, Table 6-1). -/
def queueStall (b : Nat) (t : Stream) (q : Nat) (s : State) : Option Stall × State :=
  (none, modStr b t (fun x => { x with state := .wait, wait := some (.queue q) }) (satAdd (Rg.BENCH_ILK_QUEUE b) 1 s))

/-- QPUSH (R147): appends to a queue of its own bench, or sends an entry over the clamp network. -/
def spQpush : ISpec where
  opc := 0x13
  map := { cq := 0x1F, mod := 1, aux := 0x7F, d := true, imm := true, opid := true }
  legal := fun b w s =>
    if w.mod.getLsbD 0 then
      !(inTest s b) && (pushTarget s b w).isSome && !(pushTarget s b w == some b)
    else w.aux == 0
  hold := fun b t w s =>
    match pushTarget s b w with
    | some k => if 16 ≤ queueLoad (bench s k) w.cq.toNat then some (queueStall b t w.cq.toNat s) else none
    | none => none
  run := fun b _ w _ _ s =>
    match pushTarget s b w with
    | some k =>
      let q := w.cq.toNat
      if w.mod.getLsbD 0 then modBench k (fun x => { x with flights := x.flights ++ [{ q := q, v := iwLow w }] }) s
      else modBench k (fun x => { x with queues := spPut [] q (spGet [] q x.queues ++ [iwLow w]) x.queues }) s
    | none => s
def execQpush (b : Nat) (t : Stream) (w : IWord) (s : State) : Out := .next (issue spQpush b t w s)

/-- QPOP (R147): the head entry of a queue of the bench goes to QB. -/
def spQpop : ISpec where
  opc := 0x14
  map := { cq := 0x1F }
  hold := fun b t w s =>
    if spGet [] w.cq.toNat (bench s b).queues = [] then some (queueStall b t w.cq.toNat s) else none
  run := fun b t w _ _ s =>
    let q := w.cq.toNat
    match spGet [] q (bench s b).queues with
    | [] => s
    | h :: rest =>
      modStr b t (fun x => { x with qb := h })
        (modBench b (fun x => { x with queues := spPut [] q rest x.queues }) s)
def execQpop (b : Nat) (t : Stream) (w : IWord) (s : State) : Out := .next (issue spQpop b t w s)

end Sys2Proof.Machine
end

