-- ==== Sys2Proof/Machine/Array.lean ====
section
/-! DEFINITION. The bench array (chapter 4, section 7.6): TILE, TCLR, TDRAIN, TTAP and HADA, the check edge and the try
comparisons, the outfeed and the drain. -/

namespace Sys2Proof.Machine

/-! ### Cells -/

/-- Cell (i, j) of the physical array, at 97 × i + j; row 128 and column 96 are the try edges (Table 4-1). -/
def cellKey (i j : Nat) : Nat := 97 * i + j

def cellOf (a : Accum) (i j : Nat) : Cell := spGet {} (cellKey i j) a.cells
def setCell (i j : Nat) (c : Cell) (a : Accum) : Accum := { a with cells := spPut {} (cellKey i j) c a.cells }

def accOf (x : Bench) (isB : Bool) : Accum := if isB then x.accB else x.accA
def setAcc (isB : Bool) (a : Accum) (x : Bench) : Bench := if isB then { x with accB := a } else { x with accA := a }

/-- Product count of a cell (R59, R81): it saturates at 2^32 − 1. -/
def cellN (a : Accum) (c : Cell) : Nat := min (2 ^ 32 - 1) (a.n + c.n)
/-- The chain of the cell exceeds 2^31 products (R59). -/
def cellChn (a : Accum) (c : Cell) : Bool := decide (2 ^ 31 < cellN a c)
/-- Stickies of a cell, OVP and OVN set also by a chain beyond its limit (R59). -/
def cellSt (a : Accum) (c : Cell) : Stick :=
  { c.st with ovp := c.st.ovp || cellChn a c, ovn := c.st.ovn || cellChn a c }

/-! ### Pairings (Tables 3-3 and 3-14) -/

/-- Raw words and predicate arrays, which the array names in no use (R112, R466). -/
def noOperand (f : Nat) : Bool := f == fRaw || f == fPred

/-- Mode of a pairing of operand formats: none when Table 3-14 lacks it, else whether it is of window mode. -/
def pairing (fa fb : Nat) : Option Bool :=
  let small (f : Nat) : Bool := 4 ≤ f && f ≤ 8
  let wide (f : Nat) : Bool := 1 ≤ f && f ≤ 3
  if small fa && small fb then some false
  else if fa = fInt8 ∧ fb = fInt8 then some false
  else if fmtMx fa && fmtMx fb then
    (if (fa = fMxInt8) = (fb = fMxInt8) then some true else none)
  else if wide fa && wide fb then some true
  else none

/-! ### Injection (R103) -/

/-- BENCH_TRY_INJ is armed for this accumulator of this cell. -/
def injHits (s : State) (b i j : Nat) (isB : Bool) : Bool :=
  let r := rg s (Rg.BENCH_TRY_INJ b)
  bit r 31 && bits r 30 23 == i && bits r 22 16 == j && (bit r 0 == isB)

/-- Invert bit `k` of an s96 (or s160) value. -/
def flipBit (w k : Nat) (v : Int) : Int := toSigned w (ofSigned w v ^^^ 2 ^ k)

/-- The armed bit of a cell that has just taken its next product is inverted, and ARM clears (R103). -/
def inject (b i j : Nat) (isB : Bool) (s : State) : State :=
  if injHits s b i j isB then
    let k := bits (rg s (Rg.BENCH_TRY_INJ b)) 14 8
    let w := if i = 128 ∨ j = 96 then 160 else 96
    let f (a : Accum) : Accum := let c := cellOf a i j
      setCell i j { c with acc := flipBit w k c.acc } a
    wr (Rg.BENCH_TRY_INJ b) (rg s (Rg.BENCH_TRY_INJ b) &&& 0x7FFFFFFF)
      (modBench b (fun x => setAcc isB (f (accOf x isB)) x) s)
  else s

/-! ### TILE (R97, R98, R176) -/

/-- An array operand: used lines and the value of line `i` at position `q`, with whether it was flushed on input. -/
structure TileOp where
  lines : Nat
  at'   : Nat → Nat → Dy × Bool

/-- The operand of descriptor `d`, `per` elements to a position (R176). -/
def tileOp (x : Bench) (d : SDesc) (per : Nat) : TileOp where
  lines := d.lines + 1
  at' := fun i q =>
    let v := trayEl x d.addr (fmtWidth d.fmt) (per * q + i)
    let sc := if fmtMx d.fmt then (trayByte x (d.saddr + per * (q / 32) + i)).toNat else 0x7F
    dyOf d.fmt v sc

/-- One product into logical cell (i, j): the accumulator, and the numeric events of the product (R60, R98). -/
def mac (l : Int) (win : Bool) (depth i j : Nat) (p : Dy) (fl : Bool) (a : Accum) : Accum × Nev :=
  let o := termOf p l win depth
  let c := cellOf a i j
  (setCell i j { c with acc := c.acc + o.t, res := c.res + o.rho, st := c.st.join o.st } a,
   { flush := b2n fl, ufl := b2n o.ufl, causes := if o.deep then [causeUfDepth] else [] })

/-- One product into a try cell (R98). -/
def tryMac (l : Int) (win : Bool) (i j : Nat) (p : Dy) (a : Accum) : Accum :=
  let (v, st) := tryTermOf p l win
  let c := cellOf a i j
  setCell i j { c with acc := c.acc + v, st := c.st.join st } a

/-- Operand position `q` of a tile: every logical cell of the used rows and columns, and the try products of R97. The
events carry the position of their cell. -/
def tilePos (ao bo : TileOp) (l : Int) (win : Bool) (depth q : Nat) (a : Accum) : Accum × List (Nev × Nat × Nat) :=
  let as := (List.range ao.lines).map fun i => ao.at' i q
  let bs := (List.range bo.lines).map fun j => bo.at' j q
  let ca := as.foldl (fun c v => dyAdd c v.1) {}
  let rb := bs.foldl (fun c v => dyAdd c v.1) {}
  let cells := (List.range ao.lines).flatMap fun i => (List.range bo.lines).map fun j => (i, j)
  let r := cells.foldl (fun (a, evs) (i, j) =>
    let x := as.getD i ({}, false)
    let y := bs.getD j ({}, false)
    let (a, e) := mac l win depth i j (dyMul x.1 y.1) (x.2 || y.2) a
    (a, if e = nevNone then evs else evs ++ [(e, i, j)])) (a, [])
  let a := (List.range ao.lines).foldl (fun a i => tryMac l win i 96 (dyMul (as.getD i ({}, false)).1 rb) a) r.1
  let a := (List.range bo.lines).foldl (fun a j => tryMac l win 128 j (dyMul ca (bs.getD j ({}, false)).1) a) a
  (tryMac l win 128 96 (dyMul ca rb) a, r.2)

/-- The cells that take a product at an operand position, for the injection of R103. -/
def injReach (ao bo : TileOp) (i j : Nat) : Bool :=
  (decide (i < ao.lines) || i == 128) && (decide (j < bo.lines) || j == 96)

/-- The tile number that the next TDRAIN, TTAP or HADA of op `opid` takes (R165). -/
def tileNo (x : Bench) (opid : Word) : Nat := spGet 0 opid.toNat x.tiles
def tileNext (opid : Word) (x : Bench) : Bench :=
  { x with tiles := spPut 0 opid.toNat (tileNo x opid + 1) x.tiles }

/-- The cycle, from the tile's first read, in which operand position `q` is read (R83, R84, Table 4-2). -/
def readCycle (fa fb q : Nat) : Nat :=
  if fmtElemOf fa = 0x08 ∧ fmtElemOf fb = 0x08 then q / 2
  else if fa = fFp32 ∨ fb = fFp32 then 16 * q
  else if fa = 0x02 ∨ fa = 0x03 then 4 * q
  else q

/-- An event of the array or the outfeed with its rank among those of its instruction (R77), its unit and its position. -/
abbrev Ranked := Nat × Nev × Nat × Nat

/-- The events of an instruction, its first trap in front (R77). -/
def trapFirst (l : List Ranked) : List (Nev × Nat × Nat) := (frontBy (·.1) (·.2.1.causes != []) l).map (·.2)

/-- Positions `q` to `q` + `k` − 1 of a tile, on bench `b`, whose position `q` is read in cycle `cyc q`: cell (i, j) forms its
products of `q` in cycle 1 + i + j after that (R84). -/
def tileRun (b : Nat) (isB : Bool) (ao bo : TileOp) (l : Int) (win : Bool) (opid : Word) (cyc : Nat → Nat) :
    Nat → Nat → State × List Ranked → State × List Ranked
  | 0, _, r => r
  | n + 1, q, (s, evs) =>
    let x := bench s b
    let r := tilePos ao bo l win (auditDepth s b opid) q (accOf x isB)
    let a := { r.1 with n := min (2 ^ 32 - 1) (r.1.n + 1) }
    let s := setBench b (setAcc isB a x) s
    let evs := evs ++ r.2.map fun e => ((cyc q + e.2.1 + e.2.2) * 2 ^ 16 + e.2.1 * 2 ^ 8 + e.2.2, e.1, unitArray,
      posArray (tileNo x opid) e.2.1 e.2.2)
    let i := bits (rg s (Rg.BENCH_TRY_INJ b)) 30 23
    let j := bits (rg s (Rg.BENCH_TRY_INJ b)) 22 16
    let s := if injReach ao bo i j then inject b i j isB s else s
    tileRun b isB ao bo l win opid cyc n (q + 1) (s, evs)

/-- Accumulator named by an array instruction. -/
def accBit (w : IWord) : Bool := w.aux.getLsbD 15

/-- Wait of R92 for an instruction that writes accumulator x: a pending drain of x that has not read row 0, or a tap
of x. -/
def accBusy (x : Bench) (isB : Bool) : Bool :=
  (match x.drain with | some d => d.tdrain && d.accB == isB | none => false)
    || (match x.tap with | some p => p.accB == isB | none => false)

/-- A wait counted in BENCH_ARR_DWAIT (R91, R92). -/
def dwait (b : Nat) (s : State) : Option Stall × State := (some .array, satAdd (Rg.BENCH_ARR_DWAIT b) 1 s)

/-- Byte ranges that a TILE's feeders read. -/
def tileRanges (da db : SDesc) (k : Nat) : List (Nat × Nat) :=
  let sc (d : SDesc) (per : Nat) : Nat × Nat := (d.saddr, if fmtMx d.fmt then per * ((k + 31) / 32) else 0)
  [(da.addr, elemBytes da.fmt (128 * k)), (db.addr, elemBytes db.fmt (96 * k)), sc da 128, sc db 96]

/-- Cycles for which the operands of one position of a pairing are read (Table 4-2): the 16 positions that a line may run behind
(R86) last 16 times as long. -/
def posCycles (fa fb : Nat) : Nat :=
  if fa = fFp32 ∨ fb = fFp32 then 16 else if fa = 0x02 ∨ fa = 0x03 then 4 else 1

/-- A cycle in which the operands of the stream's array instruction are late (R86, R87): a local stall, and, once the late lines
are 16 operand positions behind, of `per` cycles each, an array stall as well. -/
def feederLate (b : Nat) (t : Stream) (per : Nat) (s : State) : State :=
  let k := (str s b t).late + 1
  let s := satAdd48 (Rg.BENCH_ARR_LSTALL_LO b) 1 (modStr b t (fun x => { x with late := k }) s)
  if 16 * per < k then satAdd (Rg.BENCH_ARR_ASTALL b) 1 s else s

/-- The waits of an array instruction on the tray (R153, R170): descriptors in `slots`, and byte ranges; each cycle counts in
BENCH_ILK_TRAY (R154). `feeder` gives, for ranges that the feeders read, the cycles of an operand position (R86). -/
def trayHold (b : Nat) (slots : List Nat) (feeder : Option Nat) (ranges : List (Nat × Nat)) (t : Stream) (s : State) :
    Option (Option Stall × State) :=
  let x := bench s b
  if sbHit x (slots.map slotRange) then some (some .tray, satAdd (Rg.BENCH_ILK_TRAY b) 1 s)
  else if sbHit x ranges then
    let s := satAdd (Rg.BENCH_ILK_TRAY b) 1 s
    some (some .tray, match feeder with
      | some per => feederLate b t per s
      | none => s)
  else if banksGranted x t ranges = false then some (some .grant, s)
  else none

/-- TILE (R176). -/
def spTile : ISpec where
  opc := 0x20
  map := { cq := 0xFF, g := true, ce := true, ix := true, mod := 0x3FF, aux := 0xFFFF, d := true, opid := true }
  legal := testClampOk
  res := some dtArray
  hold := fun b t w s =>
    let x := bench s b
    let d := w.d.toNat
    let k := w.aux.toNat % 2 ^ 15 + 1
    if accBusy x (accBit w) then some (dwait b s)
    else
      let da := readDesc x d (qbTray s b t w)
      let db := readDesc x (d + 1) (qbTray s b t w)
      trayHold b [d, d + 1] (some (posCycles da.fmt db.fmt)) (tileRanges da db k) t s
  rules := fun b t w s =>
    let x := bench s b
    let d := w.d.toNat
    let da := readDesc x d (qbTray s b t w)
    let db := readDesc x (d + 1) (qbTray s b t w)
    let k := w.aux.toNat % 2 ^ 15 + 1
    let isB := accBit w
    let a := accOf x isB
    let pr := pairing da.fmt db.fmt
    let win := pr.getD false
    let l : Int := if win then toSigned 10 w.mod.toNat else -32
    let mx := fmtMx da.fmt || fmtMx db.fmt
    let rb := tileRanges da db k
    let out := rb.any fun r => decide (trayEnd < r.1 + r.2)
    [(decide (slotEnd ≤ d + 1), xTrayRange),
     (da.addr % 64 ≠ 0 || db.addr % 64 ≠ 0 || da.saddr % 64 ≠ 0 || db.saddr % 64 ≠ 0 || out, xTrayRange),
     (fieldBad da false || fieldBad db false || noOperand da.fmt || noOperand db.fmt, xDesc),
     (decide (127 < da.lines) || decide (95 < db.lines) || (mx && k % 32 ≠ 0), xDesc),
     (pr.isNone, xStreamKind),
     (pr == some false && w.mod != 0, xIllegal),
     (a.started && (a.win != win || (win && a.l ≠ l)), xAccMode)]
  run := fun b t w pc _ s =>
    let x := bench s b
    let d := w.d.toNat
    let da := readDesc x d (qbTray s b t w)
    let db := readDesc x (d + 1) (qbTray s b t w)
    let k := w.aux.toNat % 2 ^ 15 + 1
    let isB := accBit w
    let a := accOf x isB
    let pr := pairing da.fmt db.fmt
    let win := pr.getD false
    let l : Int := if win then toSigned 10 w.mod.toNat else -32
    let rb := tileRanges da db k
    let a := { a with
      started := true, win := win, l := l, dot := false,
      m := if a.started then max a.m (da.lines + 1) else da.lines + 1,
      c := if a.started then max a.c (db.lines + 1) else db.lines + 1 }
    let s := trayUeReport b (slotRange d :: slotRange (d + 1) :: rb) s
    let s := setBench b (setAcc isB a x) s
    let r := tileRun b isB (tileOp x da 128) (tileOp x db 96) l win w.opid (readCycle da.fmt db.fmt) k 0 (s, [])
    completeAdd b (ccOf { ce := true } t pc w) (numEvents b w.opid (trapFirst r.2) r.1)
def execTile (b : Nat) (t : Stream) (w : IWord) (s : State) : Out := .next (issue spTile b t w s)

/-- TCLR (R89, R177): the accumulator of every cell and try cell is cleared, and its chain ends. -/
def spTclr : ISpec where
  opc := 0x21
  map := { cq := 0xFF, g := true, ce := true, aux := 0x8000 }
  legal := testClampOk
  res := some dtArray
  hold := fun b _ w s => if accBusy (bench s b) (accBit w) then some (dwait b s) else none
  run := fun b t w pc _ s =>
    completeAdd b (ccOf { ce := true } t pc w) (modBench b (fun x => setAcc (accBit w) {} x) s)
def execTclr (b : Nat) (t : Stream) (w : IWord) (s : State) : Out := .next (issue spTclr b t w s)

/-! ### Try comparisons (R96, R99, R101) -/

/-- line_check of R99: (skip, bad) of the line `v` against `y`; `sh` shifts the logical cells into fine units. -/
def lineCheck (a : Accum) (v : List Cell) (y : Cell) (sh : Nat) : Bool × Bool :=
  let off (c : Cell) : Bool := let k := cellSt a c
    k.inv || k.ovp || k.ovn
  if off y || v.any off then (true, false)
  else
    let sum := v.foldl (fun t c => t + c.acc * 2 ^ sh + (if sh = 0 then 0 else c.res)) (0 : Int)
    let d := y.acc - sum
    let allow : Int := if a.win then (v.length - 1 : Int) * cellN a y else 0
    (false, decide (d < 0) || decide (allow < d))

/-- Outcome of the comparisons of one drain or tap: lines skipped, failing rows and columns, and the two corner
checks. -/
structure TryRes where
  skip  : Nat
  rows  : List Nat
  cols  : List Nat
  crow  : Bool
  ccol  : Bool
  ew    : Option Nat
  skR   : List Nat
  skC   : List Nat
  deriving DecidableEq, Repr

/-- Lines with a listed cell; the others hold nothing but zeros and pass. -/
def tryCheck (a : Accum) : TryRes :=
  if a.dot then
    let bad := (List.range 128).filter fun i => !(cellOf a i 0 == cellOf a i 1)
    { skip := 0, rows := [], cols := [], crow := false, ccol := false, ew := bad.head?, skR := [], skC := [] }
  else
    let sh := if a.win then 40 else 0
    let rs := (List.range 128).map fun i => (i, lineCheck a ((List.range 96).map fun j => cellOf a i j) (cellOf a i 96) sh)
    let cs := (List.range 96).map fun j => (j, lineCheck a ((List.range 128).map fun i => cellOf a i j) (cellOf a 128 j) sh)
    let kr := lineCheck a ((List.range 96).map fun j => cellOf a 128 j) (cellOf a 128 96) 0
    let kc := lineCheck a ((List.range 128).map fun i => cellOf a i 96) (cellOf a 128 96) 0
    let sk (l : List (Nat × Bool × Bool)) := (l.filter (·.2.1)).map (·.1)
    let bd (l : List (Nat × Bool × Bool)) := (l.filter (·.2.2)).map (·.1)
    { skip := (sk rs).length + (sk cs).length + b2n kr.1 + b2n kc.1, rows := bd rs, cols := bd cs,
      crow := kr.2, ccol := kc.2, ew := none, skR := sk rs, skC := sk cs }

def TryRes.bad (r : TryRes) : Bool := r.rows != [] || r.cols != [] || r.crow || r.ccol || r.ew.isSome

/-- Class and position of a failed check (Table 4-7): class, row, column. -/
def tryClass (r : TryRes) : Nat × Nat × Nat :=
  match r.ew with
  | some i => (8, i, 0)
  | none =>
    match r.rows, r.cols, r.crow, r.ccol with
    | [i], [j], false, false => (1, i, j)
    | [i], [], false, false => if r.skC ≠ [] then (2, i, 0xFF) else (7, i, 0xFF)
    | [], [j], false, false => if r.skR ≠ [] then (3, 0xFF, j) else (7, 0xFF, j)
    | [i], [], false, true => (4, i, 96)
    | [], [j], true, false => (5, 128, j)
    | [], [], true, true => (6, 128, 96)
    | rs, cs, _, _ => (7, rs.headD 0xFF, cs.headD 0xFF)

/-- A failed comparison of the drain or tap of `opid` (R101): the token, the counters, HEALTH, and the latch of the
first of the step with its event. -/
def tryReport (b : Nat) (opid : Word) (tile : Nat) (tap isB : Bool) (r : TryRes) (s : State) : State :=
  let s := satAdd (Rg.BENCH_TRY_SKIP b) r.skip s
  if r.bad = false then s
  else
    let s := satAdd (Rg.BENCH_TRY_COUNT b) 1 s
    let s := wr (Rg.HEALTH (Pg.BENCH b)) (rg s (Rg.HEALTH (Pg.BENCH b)) ||| 0x100) s
    let s := if bit (rg s (Rg.BENCH_TRY_STAT b)) 31 then s
      else
        let k := tryClass r
        let pos := posArray tile k.2.1 k.2.2
        let st := 0x80000000 + k.1 * 0x1000000 + r.rows.length * 0x10000 + r.cols.length * 0x100 + b2n tap * 8
          + b2n r.ccol * 4 + b2n r.crow * 2 + b2n isB
        let s := wr (Rg.BENCH_TRY_STAT b) (word st) (wr (Rg.BENCH_TRY_OP b) opid s)
        let s := wr (Rg.BENCH_TRY_POS_LO b) (word pos) (wr (Rg.BENCH_TRY_POS_HI b) (word (pos / 2 ^ 32)) s)
        raiseEv (Pg.BENCH b) 0x510 opid.toNat pos s
    benchVoid b 4 s

/-! ### Drains and taps (R71, R90 to R94, R178, R179) -/

/-- Formats TDRAIN accepts (R178). -/
def drainFmt (f : Nat) : Bool := fmtFloat f || f == fInt8 || f == fFx32

/-- What a drain or tap keeps of its descriptor (R107, R178). -/
def infoOf (d : SDesc) (opid : Word) : SrcInfo := { fmt := d.fmt, idx := d.idx, rs := d.rs, cs := d.cs, opid := opid }

/-- FX block exponent of the element at logical index `ix`, from an exponent array at `saddr` (R171). -/
def fxExpAt (x : Bench) (saddr idx0 ix : Nat) : Int :=
  toSigned 16 (leNat (trayBytes x (saddr + 2 * blockDist 40 (idx0 / 256) (ix / 256)).toNat 2))

/-- The byte ranges of the exponents that the elements of `rows` rows and `cols` columns of a drain or tap into an FX format
take (R171). -/
def cellExpRanges (x : SDesc) (rows cols : Nat) : List (Nat × Nat) :=
  if fmtFx x.fmt then
    (((List.range rows).flatMap fun i => (List.range cols).map fun j => rcIndex (infoOf x 0) i j / 256).foldr setIns []).map
      fun k => ((scaleAddr x (256 * k)).toNat, 2)
  else []

/-- The exponent of some element of `rows` rows and `cols` columns would lie beyond the tray (R171). -/
def cellExpOut (d : SDesc) (rows cols : Nat) : Bool :=
  fmtFx d.fmt && (List.range rows).any fun i => (List.range cols).any fun j => scaleOut d (rcIndex (infoOf d 0) i j)

/-- One cell converted for a drain or tap into format `f` (R71): its encoding with its block exponent, and the
events. -/
def cellOut (md : NumMode) (a : Accum) (f : Nat) (ex : Int) (rnd : Rnd) (r : Nat) (c : Cell) : (Nat × Int) × Nev :=
  if fmtFx f then
    let o := drainFx c.acc (cellSt a c) (cellChn a c) a.l (fxN f) ex
    ((ofSigned (fxN f) o.1, ex), o.2)
  else
    let o := drainEl md c.acc (cellSt a c) (cellChn a c) a.l f rnd r
    ((o.1, zeroE), o.2)

/-- Unit of a numeric cause raised at a drain or tap: FX_OVF is the outfeed's, the causes of a cell the array's
(Tables 3-8 and 3-10; DEDUCED, log entry 10). -/
def drainUnit (e : Nev) : Nat :=
  if e.causes.any (fun c => c = causeFxOvf || c = causeNanWrite) then unitOutfeed else unitArray

/-- Used rows and columns of an accumulator's chain (R90). -/
def chainM (a : Accum) : Nat := if a.started then a.m else 128
def chainC (a : Accum) : Nat := if a.started then a.c else 96

/-- The elements of the used rows and columns, with their events and positions, row by row; `cols` columns. -/
def cellEls (md : NumMode) (x : Bench) (a : Accum) (k : SrcInfo) (saddr : Nat) (dr : Draws) (rows cols : Nat) :
    List ((Nat × Nat) × (Nat × Int) × Nev) :=
  (List.range rows).flatMap fun i => (List.range cols).map fun j =>
    let ix := rcIndex k i j
    ((i, j), cellOut md a k.fmt (if fmtFx k.fmt then fxExpAt x saddr k.idx ix else zeroE) dr.rnd (drawR dr ix) (cellOf a i j))

/-- The events of a drain or tap in the order of R77: a drain reads a row in each cycle and a tap a column (R90, R94); in one
cycle the array's come before the outfeed's. -/
def cellEvents (tap : Bool) (tile : Nat) (els : List ((Nat × Nat) × (Nat × Int) × Nev)) : List (Nev × Nat × Nat) :=
  trapFirst (els.map fun e =>
    let (p, r) := if tap then (e.1.2, e.1.1) else e.1
    ((2 * p + drainUnit e.2.2) * 2 ^ 8 + r, e.2.2, drainUnit e.2.2, posArray tile e.1.1 e.1.2))

/-- Positions column by column, 128 to a column; absent ones read zero (R468). -/
def colOrder (els : List ((Nat × Nat) × (Nat × Int) × Nev)) (rows cols : Nat) : List (Nat × Int) :=
  let m := els.map fun e => (e.1.2 * 128 + e.1.1, e.2.1)
  let by' := m.foldl (fun l e => spIns e.1 e.2 l) []
  (List.range (128 * cols)).map fun p => if p % 128 < rows then spGet (0, zeroE) p by' else (0, zeroE)

/-- The descriptor of a drain's exponent array (R171, R178). -/
def drainDesc (d : Drain) : SDesc := { fmt := d.info.fmt, idx := d.info.idx, rs := d.info.rs, cs := d.info.cs, saddr := d.saddr }

/-- A drain reads its rows (R90, R93, R99): its entry goes into the outfeed queue, not yet visible, and the drain buses are free
(R91); the traps of its cells, the audit counts and the try comparisons are reported. The cells of rows at or beyond m and of
columns at or beyond c, which are read and not written, raise nothing (DESIGN CHOICE, log entry 71). -/
def drainRead (b : Nat) (d : Drain) (s : State) : State :=
  let s := trayUeReport b (cellExpRanges (drainDesc d) (chainM (accOf (bench s b) d.accB)) (chainC (accOf (bench s b) d.accB))) s
  let x := bench s b
  let a := accOf x d.accB
  let m := chainM a
  let c := chainC a
  let els := cellEls (numMode s) x a d.info d.saddr d.draws m c
  let tile := tileNo x d.info.opid
  let tr := tryCheck a
  let e : OfEntry := { info := d.info, saddr := d.saddr, rows := m, prod := false, suspect := tr.bad, visible := false,
                       data := colOrder els m c }
  let k : EntryEnd := { last := true, str := d.stream, reads := d.reads, opid := d.info.opid, fmt := d.info.fmt, count := m * c,
                        wit := streamWitness d.info.fmt (entryStream e), cc := d.cc }
  let s := setBench b { tileNext d.info.opid x with
    outfeed := x.outfeed ++ [e], drain := none, reading := x.reading ++ [k] } s
  let s := numEvents b d.info.opid (cellEvents false tile els) s
  tryReport b d.info.opid tile false d.accB tr s

/-- A HADA PROD fills free outfeed entries (R91, R180); it holds the drain buses until its last one is placed. The first argument
bounds their number. -/
def prodPlace (d : Drain) : Nat → List OfEntry → Bench → Bench
  | _, [], x => { x with drain := none }
  | 0, l, x => { x with drain := some { d with entries := l } }
  | n + 1, e :: rest, x =>
    if 4 ≤ x.outfeed.length then { x with drain := some { d with entries := e :: rest } }
    else prodPlace d n rest { x with
      outfeed := x.outfeed ++ [e],
      reading := x.reading ++ [{ last := rest == [], str := d.stream, reads := d.reads, opid := d.info.opid, fmt := d.info.fmt, count := d.count,
                                 wit := d.wit, cc := d.cc }] }

/-- A drain takes a free outfeed entry: the rows of its accumulator, or the next entries of a HADA PROD. -/
def drainPlace (b : Nat) (s : State) : State :=
  let x := bench s b
  match x.drain with
  | none => s
  | some d =>
    if 4 ≤ x.outfeed.length then s
    else if d.tdrain then drainRead b d s
    else setBench b (prodPlace d 4 d.entries x) s

/-- The drain buses are held by an earlier drain, until its last row is read, or by a tap, until its last beat is (R91, R94). -/
def busesBusy (x : Bench) : Bool := x.drain.isSome || x.tap.isSome

/-- Field checks common to the instructions that name a rounding and a draw number (Table 7-10). -/
def drawLegal (b : Nat) (w : IWord) (s : State) : Bool :=
  testClampOk b w s && w.mod.toNat % 4 != 3 && (!(w.aux.getLsbD 7) || w.imm == 0)

/-- GRAIN_KEY, raised once by an instruction that takes draws without a key (R126, R178). -/
def grainKey (b : Nat) (t : Stream) (pc : Nat) (opid : Word) (dr : Draws) (takes : Bool) (s : State) : State :=
  if takes && !dr.keyOk then execTrap b t pc opid xGrainKey s else s

/-- The wait of TDRAIN, TTAP and HADA PROD at issue for busy drain buses; that it counts in BENCH_ARR_DWAIT, as the waits of R91
and R92 do, is a DESIGN CHOICE (log entry 71). -/
def busWait (b : Nat) (s : State) : Option (Option Stall × State) :=
  if busesBusy (bench s b) then some (dwait b s) else none

/-- TDRAIN (R90, R91, R178): takes the drain buses; reads its rows at once when an outfeed entry is free, and otherwise
waits, counted in BENCH_ARR_DWAIT. -/
def spTdrain : ISpec where
  opc := 0x22
  map := { cq := 0xFF, g := true, ce := true, ix := true, mod := 3, aux := 0x8080, d := true, imm := true, opid := true }
  legal := drawLegal
  res := some dtArray
  hold := fun b t w s =>
    let a := accOf (bench s b) (accBit w)
    busWait b s <|> trayHold b [w.d.toNat] none
      (cellExpRanges (readDesc (bench s b) w.d.toNat (qbTray s b t w)) (chainM a) (chainC a)) t s
  rules := fun b t w s =>
    let k := w.d.toNat
    let d := readDesc (bench s b) k (qbTray s b t w)
    [(decide (slotEnd ≤ k), xTrayRange),
     (cellExpOut d (chainM (accOf (bench s b) (accBit w))) (chainC (accOf (bench s b) (accBit w))), xTrayRange),
     (fieldBad d false || !drainFmt d.fmt, xDesc)]
  run := fun b t w pc _ s =>
    let k := w.d.toNat
    let d := readDesc (bench s b) k (qbTray s b t w)
    let dr := drawsOf (str s b t) (rndOf (w.mod.toNat % 4)) (w.aux.getLsbD 7) w.imm.toNat
    let s := trayUeReport b [slotRange k] s
    let takes := dr.rnd = .sr && !fmtFx d.fmt
    let s := grainKey b t pc w.opid dr takes s
    let dn : Drain :=
      { stream := t, pc := pc, tdrain := true, accB := accBit w, info := infoOf d w.opid, saddr := d.saddr,
        draws := dr, cc := ccOf { ce := true } t pc w, entries := [], count := 0, wit := 0,
        reads := cellExpRanges d (chainM (accOf (bench s b) (accBit w))) (chainC (accOf (bench s b) (accBit w))) }
    let s := modBench b (fun x => { x with drain := some dn }) s
    let s := nextDraw b t pc w.opid (w.aux.getLsbD 7) (takes && !dr.keyOk) s
    if 4 ≤ (bench s b).outfeed.length then satAdd (Rg.BENCH_ARR_DWAIT b) 1 s else drainPlace b s
def execTdrain (b : Nat) (t : Stream) (w : IWord) (s : State) : Out := .next (issue spTdrain b t w s)

/-- DRAIN_START (R91): a drain that waited for a free outfeed entry reads row 0. -/
def execDrainStart (b : Nat) (s : State) : Out := .next (if isFrozen s && !inTest s b then s else drainPlace b s)

/-- The first entry that is not yet visible becomes visible (R93). -/
def showEntry : List OfEntry → List OfEntry
  | [] => []
  | e :: t => if e.visible then e :: showEntry t else { e with visible := true } :: t

/-- The first entry not yet visible becomes visible (R93): with the last of its instruction, that instruction has written its
tensor and completes (R168), and its one witness record is due (R41, R44). -/
def entryShow (b : Nat) (e : EntryEnd) (s : State) : State :=
  let s := modBench b (fun x => { x with outfeed := showEntry x.outfeed, reading := x.reading.tail }) s
  if e.last then completeAdd b e.cc (tensorRecord b e.opid e.fmt e.count e.wit s) else s

/-- OUTFEED_ENTRY_VISIBLE (R93). -/
def execOutfeedEntryVisible (b : Nat) (s : State) : Out :=
  .next (if isFrozen s && !inTest s b then s
    else match (bench s b).reading with
      | e :: _ => entryShow b e s
      | [] => s)

/-- Tap mode and its descriptor format (R179). -/
def tapModeOf (c : Nat) : TapMode := if c = 1 then .fx64 else if c = 2 then .fp32 else .raw
def tapFmt : TapMode → Nat
  | .raw => fRaw
  | .fx64 => fFx64
  | .fp32 => fFp32

/-- The four raw words of a tapped cell (Table 4-5). -/
def rawWords (c : Int × Stick × Bool) : List Nat :=
  let v := ofSigned 96 c.1
  [v % 2 ^ 32, v / 2 ^ 32 % 2 ^ 32, v / 2 ^ 64,
   b2n c.2.2 * 16 + b2n c.2.1.uf * 8 + b2n c.2.1.ovn * 4 + b2n c.2.1.ovp * 2 + b2n c.2.1.inv]

/-- Witness of a tap (R179): the elements, or the raw words at index 4 × ix + k. -/
def tapWitness (t : Tap) : DWord :=
  match t.mode with
  | .raw => witness fRaw (((List.range t.raw.length).flatMap fun p =>
      let c := t.raw.getD p (0, {}, false)
      let ix := rcIndex t.info (p % 128) (p / 128)
      (List.range 4).map fun k => ((4 * ix + k) % 2 ^ 48, (rawWords c).getD k 0))) []
  | _ => streamWitness t.info.fmt (tapStream t)

/-- TTAP (R94, R179): the accumulator's cells become a stream for the plane instructions of its stream that name the tap; the
drain buses are held until its last beat has been read. -/
def spTtap : ISpec where
  opc := 0x23
  map := { cq := 0xFF, g := true, ce := true, ix := true, mod := 0xF, aux := 0x8080, d := true, imm := true, opid := true }
  legal := fun b w s => drawLegal b w s && w.mod.toNat / 4 != 3
  res := some dtArray
  hold := fun b t w s =>
    busWait b s <|> trayHold b [w.d.toNat] none (cellExpRanges (readDesc (bench s b) w.d.toNat (qbTray s b t w)) 128 96) t s
  rules := fun b t w s =>
    let x := bench s b
    let k := w.d.toNat
    let d := readDesc x k (qbTray s b t w)
    let mode := tapModeOf (w.mod.toNat / 4)
    [(decide (slotEnd ≤ k), xTrayRange),
     (cellExpOut d 128 96, xTrayRange),
     (fieldBad d false || d.fmt != tapFmt mode, xDesc)]
  run := fun b t w pc _ s =>
    let x := bench s b
    let k := w.d.toNat
    let d := readDesc x k (qbTray s b t w)
    let mode := tapModeOf (w.mod.toNat / 4)
    let rnd := if mode = .fp32 then rndOf (w.mod.toNat % 4) else .rne
    let dr := drawsOf (str s b t) rnd (w.aux.getLsbD 7) w.imm.toNat
    let a := accOf x (accBit w)
    let info := infoOf d w.opid
    let els := if mode = .raw then [] else cellEls (numMode s) x a info d.saddr dr 128 96
    let raw := if mode = .raw then
        (List.range (128 * 96)).map fun p => let c := cellOf a (p % 128) (p / 128)
          (c.acc, cellSt a c, cellChn a c)
      else []
    let tile := tileNo x w.opid
    let tr := tryCheck a
    let tap : Tap :=
      { stream := t, pc := pc, tile := tile, accB := accBit w, mode := mode, info := info, l := a.l, suspect := tr.bad, raw := raw,
        data := if mode = .raw then [] else colOrder els 128 96, cc := ccOf { ce := true } t pc w,
        reads := cellExpRanges d 128 96 }
    let s := trayUeReport b (slotRange k :: cellExpRanges d 128 96) s
    let s := grainKey b t pc w.opid dr (dr.rnd = .sr) s
    let s := setBench b { tileNext w.opid (bench s b) with tap := some tap } s
    let s := numEvents b w.opid (cellEvents true tile els) s
    let s := tryReport b w.opid tile true (accBit w) tr s
    let s := tensorRecord b w.opid (tapFmt mode) (if mode = .raw then 49152 else 12288) (tapWitness tap) s
    nextDraw b t pc w.opid (w.aux.getLsbD 7) (dr.rnd = .sr && !dr.keyOk) s
def execTtap (b : Nat) (t : Stream) (w : IWord) (s : State) : Out := .next (issue spTtap b t w s)

/-! ### HADA (R95, R96, R180) -/

/-- The exact product of two operands drained alone with one rounding (R95, R180). -/
def hadaProd (md : NumMode) (p : Dy) (f : Nat) (rnd : Rnd) (r : Nat) : Nat × Nev :=
  let o := termOf p p.e false 0
  drainEl md o.t o.st false p.e f rnd r

/-- The outfeed entries of a HADA PROD: 12,288 elements each, in position order (R180). -/
def prodEntries (info : SrcInfo) : Nat → List (Nat × Int) → List OfEntry
  | 0, _ => []
  | _ + 1, [] => []
  | n + 1, l =>
    let h := l.take 12288
    { info := info, saddr := 0, rows := h.length, prod := true, suspect := false, visible := false, data := h } ::
      prodEntries { info with idx := (info.idx + 12288) % 2 ^ 48 } n (l.drop 12288)

/-- One product of a DOT into cells (i, 0) and (i, 1) of row i = p mod 128 (R95); only these cells count it. -/
def dotStep (b : Nat) (isB : Bool) (l : Int) (win : Bool) (opid : Word) (ao bo : TileOp) (p : Nat) (s : State) : State :=
  let x := bench s b
  let i := p % 128
  let u := ao.at' p 0
  let v := bo.at' p 0
  let up (j : Nat) (a : Accum) : Accum × Nev :=
    let r := mac l win (auditDepth s b opid) i j (dyMul u.1 v.1) (u.2 || v.2) a
    let c := cellOf r.1 i j
    (setCell i j { c with n := c.n + 1 } r.1, r.2)
  let r := up 0 (accOf x isB)
  let s := setBench b (setAcc isB (up 1 r.1).1 x) s
  let s := numEvents b opid [(r.2, unitArray, posArray (tileNo x opid) i 0)] s
  inject b i 1 isB (inject b i 0 isB s)

def dotRun (b : Nat) (isB : Bool) (l : Int) (win : Bool) (opid : Word) (ao bo : TileOp) : Nat → Nat → State → State
  | 0, _, s => s
  | n + 1, p, s => dotRun b isB l win opid ao bo n (p + 1) (dotStep b isB l win opid ao bo p s)

/-- An element-wise operand: element p of a plain array (R180). -/
def hadaOp (x : Bench) (d : SDesc) : TileOp where
  lines := 128
  at' := fun p _ =>
    let v := trayEl x d.addr (fmtWidth d.fmt) p
    let sc := if fmtMx d.fmt then (scaleAt x d (d.idx + p)).toNat else 0x7F
    dyOf d.fmt v sc

/-- The byte ranges that a HADA operand is read from, its scales among them (R171, R180). -/
def hadaRange (d : SDesc) : List (Nat × Nat) :=
  [(d.addr, elemBytes d.fmt d.count), (d.saddr, scaleBytes d.fmt d.idx d.count)]

/-- HADA (R95, R180): element-wise products through the outfeed, or one exact dot product per row. A DOT with COUNT 0 starts its
chain with m = 0, and a DOT, which writes an accumulator and no tensor of its own, sends no record of kind 1 (R41): both
DESIGN CHOICE, log entry 71. -/
def spHada : ISpec where
  opc := 0x24
  map := { cq := 0xFF, g := true, ce := true, ix := true, mod := 7, aux := 0x8080, d := true, imm := true, opid := true }
  legal := fun b w s => drawLegal b w s && (w.mod.getLsbD 2 || !accBit w)
  res := some dtArray
  hold := fun b t w s =>
    let x := bench s b
    let k := w.d.toNat
    let dot := w.mod.getLsbD 2
    let da := readDesc x k (qbTray s b t w)
    let db := readDesc x (k + 1) (qbTray s b t w)
    if (dot && accBusy x (accBit w)) || (!dot && busesBusy x) then some (dwait b s)
    else trayHold b (if dot then [k, k + 1] else [k, k + 1, k + 2]) (some (posCycles da.fmt db.fmt))
      (hadaRange da ++ hadaRange db) t s
  rules := fun b t w s =>
    let x := bench s b
    let k := w.d.toNat
    let dot := w.mod.getLsbD 2
    let isB := accBit w
    let da := readDesc x k (qbTray s b t w)
    let db := readDesc x (k + 1) (qbTray s b t w)
    let do' := readDesc x (k + 2) (qbTray s b t w)
    let n := da.count
    let a := accOf x isB
    let pr := pairing da.fmt db.fmt
    let win := pr.getD false
    let l : Int := if win then (if a.started && a.win then a.l else Config.hadaWindow) else -32
    [(decide (slotEnd ≤ k + (if dot then 1 else 2)), xTrayRange),
     (rangeBad da n false || rangeBad db n false, xTrayRange),
     (fieldBad da false || fieldBad db false || noOperand da.fmt || noOperand db.fmt || da.count ≠ db.count, xDesc),
     (!dot && (fieldBad do' false || !(fmtFloat do'.fmt || do'.fmt == fInt8)), xDesc),
     (pr.isNone, xStreamKind),
     (dot && a.started && (a.win != win || (win && a.l ≠ l)), xAccMode)]
  run := fun b t w pc _ s =>
    let x := bench s b
    let k := w.d.toNat
    let dot := w.mod.getLsbD 2
    let isB := accBit w
    let da := readDesc x k (qbTray s b t w)
    let db := readDesc x (k + 1) (qbTray s b t w)
    let do' := readDesc x (k + 2) (qbTray s b t w)
    let n := da.count
    let a := accOf x isB
    let pr := pairing da.fmt db.fmt
    let win := pr.getD false
    let l : Int := if win then (if a.started && a.win then a.l else Config.hadaWindow) else -32
    let dr := drawsOf (str s b t) (rndOf (w.mod.toNat % 4)) (w.aux.getLsbD 7) w.imm.toNat
    let s := trayUeReport b ([slotRange k, slotRange (k + 1)] ++ (if dot then [] else [slotRange (k + 2)]) ++
      hadaRange da ++ hadaRange db) s
    let ao := hadaOp x da
    let bo := hadaOp x db
    let cc := ccOf { ce := true } t pc w
    if dot then
      let a := { a with
        started := true, win := win, l := l, dot := a.dot || !a.started,
        m := if a.started then max a.m (min n 128) else min n 128, c := if a.started then max a.c 1 else 1 }
      let s := setBench b (setAcc isB a (bench s b)) s
      let s := dotRun b isB l win w.opid ao bo n 0 s
      let s := modBench b (tileNext w.opid) s
      completeAdd b cc (nextDraw b t pc w.opid (w.aux.getLsbD 7) false s)
    else
      let takes := dr.rnd = .sr && n ≠ 0
      let s := grainKey b t pc w.opid dr takes s
      let info := infoOf do' w.opid
      let els := (List.range n).map fun p =>
        let u := ao.at' p 0
        let v := bo.at' p 0
        let o := hadaProd (numMode s) (dyMul u.1 v.1) do'.fmt dr.rnd (drawR dr ((do'.idx + p) % 2 ^ 48))
        ((o.1, zeroE), o.2.join (if u.2 || v.2 then nevFlush else nevNone))
      let tile := tileNo x w.opid
      let es := prodEntries info n (els.map (·.1))
      let wit := es.foldl (fun v e => v + streamWitness do'.fmt (entryStream e)) 0
      let dn : Drain :=
        { stream := t, pc := pc, tdrain := false, accB := false, info := info, saddr := 0, draws := dr, cc := cc,
          entries := es, count := n, wit := wit, reads := hadaRange da ++ hadaRange db }
      let s := setBench b { tileNext w.opid (bench s b) with drain := if n = 0 then none else some dn } s
      let s := numEvents b w.opid ((List.range n).map fun p =>
        ((els.getD p ((0, zeroE), {})).2, unitArray, posArray tile (p % 128) 0)) s
      let s := nextDraw b t pc w.opid (w.aux.getLsbD 7) (takes && !dr.keyOk) s
      if n = 0 then completeAdd b cc (tensorRecord b w.opid do'.fmt 0 0 s)
      else if 4 ≤ (bench s b).outfeed.length then satAdd (Rg.BENCH_ARR_DWAIT b) 1 s else drainPlace b s
def execHada (b : Nat) (t : Stream) (w : IWord) (s : State) : Out := .next (issue spHada b t w s)

/-! ### TRY_INJECT is a write of BENCH_TRY_INJ (R103). -/

end Sys2Proof.Machine
end

