-- ==== Sys2Proof/Machine/PlaneCommon.lean ====
section
/-! DEFINITION. What the plane instructions share (sections 5.1, 5.2 and 7.7): their sources, the checks before the first
effect, the write of an output stream, its witness, shadowing, and the end of an instruction. -/

namespace Sys2Proof.Machine

/-- Fields of Table 7-11. -/
def plSrc0 (w : IWord) : Nat := w.mod.toNat / 256
def plSrc1 (w : IWord) : Nat := w.mod.toNat / 64 % 4
def plSrc2 (w : IWord) : Nat := w.mod.toNat / 16 % 4
def plPr (w : IWord) : Bool := w.mod.getLsbD 3
def plKeep (w : IWord) : Bool := w.mod.getLsbD 2
def plRnd (w : IWord) : Rnd := rndOf (w.mod.toNat % 4)
def plFn (w : IWord) : Nat := w.aux.toNat / 256
def plNext (w : IWord) : Bool := w.aux.getLsbD 7
def plFlag (w : IWord) (k : Nat) : Bool := w.aux.getLsbD k

/-- The kinds of a source (Table 7-11). -/
inductive SrcKind where
  | tray | entry | tap | scalar | pred
  deriving DecidableEq, Repr

def kind01 (c : Nat) : SrcKind := if c = 0 then .tray else if c = 1 then .entry else if c = 2 then .tap else .scalar
def kind2 (c : Nat) : SrcKind := if c = 0 then .tray else if c = 1 then .scalar else .pred

/-- One used input of an instruction: its kind, descriptor (unread for an entry or tap), format, elements, and, for a
RAW tap, the tapped cells. -/
structure PIn where
  kind : SrcKind
  d    : SDesc
  fmt  : Nat
  els  : List El
  raw  : Option Tap
  gone : Bool
  deriving DecidableEq, Repr

/-- The head outfeed entry, when it is visible to the plane (R93, R108). -/
def headEntry (x : Bench) : Option OfEntry :=
  match x.outfeed with
  | e :: _ => if e.visible then some e else none
  | [] => none

/-- The tap that stream `t` can read (R179). -/
def tapOf (x : Bench) (t : Stream) : Option Tap :=
  match x.tap with
  | some p => if p.stream = t then some p else none
  | none => none

/-- Positions of a RAW tap as elements without a value. -/
def rawStream (t : Tap) : List El :=
  (List.range (128 * 96)).map fun p =>
    { here := true, idx := rcIndex t.info (p % 128) (p / 128), bits := 0, ex := zeroE, dec := { cls := .zero, neg := false } }

/-- Input `k` of an instruction (descriptor at slot D + k), its first `n` positions; `gone` marks a tap that no TTAP of
the stream provides. -/
def plIn (x : Bench) (t : Stream) (d : SDesc) (kind : SrcKind) (n : Nat) : PIn :=
  match kind with
  | .entry => match headEntry x with
    | some e => { kind := kind, d := d, fmt := e.info.fmt, els := entryStream e, raw := none, gone := false }
    | none => { kind := kind, d := d, fmt := 0, els := [], raw := none, gone := true }
  | .tap => match tapOf x t with
    | some p => { kind := kind, d := d, fmt := p.info.fmt, els := if p.mode = .raw then rawStream p else tapStream p,
                  raw := if p.mode = .raw then some p else none, gone := false }
    | none => { kind := kind, d := d, fmt := 0, els := [], raw := none, gone := true }
  | .scalar => { kind := kind, d := d, fmt := d.fmt, els := scalarStream d n, raw := none, gone := false }
  | .tray | .pred => { kind := kind, d := d, fmt := d.fmt, els := trayStream x d n, raw := none, gone := false }

/-- Rules common to a used input (R171, R181, R468, section 7.7), as (broken, cause) pairs. -/
def plInBad (i : PIn) (n : Nat) : List (Bool × Nat) :=
  match i.kind with
  | .entry => [(decide (i.els.length < n), xDesc)]
  | .tap => [(i.gone, xStreamKind), (!i.gone && decide (i.els.length < n), xDesc)]
  | .scalar => [(decide (slotEnd ≤ i.d.slot), xTrayRange),
      (fieldBad i.d true || fmtBlock i.d.fmt != 0 || i.d.fmt == fPred || decide (32 < fmtWidth i.d.fmt), xDesc)]
  | .tray => [(decide (slotEnd ≤ i.d.slot) || rangeBad i.d n false, xTrayRange),
      (fieldBad i.d false || decide (i.d.count < n), xDesc)]
  | .pred => [(decide (slotEnd ≤ i.d.slot) || decide (trayEnd < i.d.addr + (n + 7) / 8), xTrayRange),
      (fieldBad i.d false || decide (i.d.count < n) || i.d.fmt != fPred, xDesc)]

/-- Rules of an output descriptor for `n` elements. -/
def plOutBad (d : SDesc) (n : Nat) : List (Bool × Nat) :=
  [(decide (slotEnd ≤ d.slot) || rangeBad d n false, xTrayRange), (fieldBad d false, xDesc)]

/-- Byte range of a tray input. -/
def plRange (i : PIn) (n : Nat) : List (Nat × Nat) :=
  match i.kind with
  | .tray => [(i.d.addr, elemBytes i.d.fmt n), (i.d.saddr, scaleBytes i.d.fmt i.d.idx n)]
  | .pred => [(i.d.addr, (n + 7) / 8)]
  | _ => []

/-- The output range of `no` elements overlaps one of the instruction's own tray inputs of `n` elements, other than in
place over In0 (R169). -/
def plOverlap (ins : List (Nat × PIn)) (out : SDesc) (n no : Nat) : Bool :=
  let o := (out.addr, elemBytes out.fmt no)
  ins.any fun (k, i) =>
    match i.kind with
    | .tray | .pred =>
      let r := (i.d.addr, elemBytes i.d.fmt n)
      decide (r.1 < o.1 + o.2 ∧ o.1 < r.1 + r.2) && !(k == 0 && r.1 == o.1 && fmtWidth i.d.fmt == fmtWidth out.fmt)
    | _ => false

/-- Position `p` is present in every used input (R468). -/
def plHere (ins : List PIn) (p : Nat) : Bool := ins.all fun i => match i.els[p]? with
  | some e => e.here
  | none => false

def elAt (i : PIn) (p : Nat) : El := i.els.getD p { here := false, idx := 0, bits := 0, ex := zeroE, dec := { cls := .zero, neg := false } }

/-- One position of an output: whether it is written, its logical index, encoding, block exponent or scale, and its
numeric events. -/
structure POut where
  p     : Nat
  live  : Bool
  idx   : Nat
  bits  : Nat := 0
  ex    : Int := zeroE
  ev    : Nev := {}
  deriving DecidableEq, Repr

/-- Witness of an output (R38): the written elements, and the scale of every block written. -/
def outWitness (f : Nat) (os : List POut) : DWord :=
  let l := os.filter (·.live)
  witness f (l.map fun o => (o.idx, o.bits)) (blockScales f (l.map fun o => (o.idx, o.ex)))

/-- The elements of an output written into the tray (R57, R112), and, when `scales`, the scales or exponents of the blocks of
its written elements at the descriptor's array (R171); the zeros beyond a tensor's end (R129) write no scale of their own. -/
def putOut (d : SDesc) (scales : Bool) (os : List POut) (x : Bench) : Bench :=
  let x := os.foldl (fun x o => if o.live then trayPutEl d.addr (fmtWidth d.fmt) o.p o.bits x else x) x
  let b := fmtBlock d.fmt
  if scales = false ∨ b = 0 then x
  else os.foldl (fun x o =>
    if o.live ∧ o.p < d.count then
      (if b = 32 then trayPutAll (scaleAddr d o.idx).toNat (leBytes 1 o.ex.toNat) x
       else trayPutAll (scaleAddr d o.idx).toNat (leBytes 2 (ofSigned 16 o.ex)) x)
    else x) x

/-- Some of the formats is FX48 or FX64, whose elements take two lanes each (R106). -/
def wideAny (fs : List Nat) : Bool := fs.any fun f => decide (32 < fmtWidth f)

/-- Lane of stream position `p` (R106); an instruction that touches an FX48 or FX64 element places every position on two
lanes (DEDUCED, log entry 36). -/
def laneOf (wide : Bool) (p : Nat) : Nat := if wide then 2 * (p % 64) else p % 128

/-- The event of a plane operation at stream position `p` and logical index `idx` (Table 3-11). -/
def planeEv (opid : Word) (wide : Bool) (p idx : Nat) (ev : Nev) : OpEv :=
  { opid := opid, ev := ev, unit := unitPlane, pos := posPlane (laneOf wide p) idx }

/-- The numeric events of the written elements of an output; one that is not written raises no trap (R112, R468). -/
def outEvents (opid : Word) (wide : Bool) (os : List POut) : List OpEv :=
  (os.filter (·.live)).map fun o => planeEv opid wide o.p o.idx o.ev

/-- The causes that a cell's drain reports (R71). -/
def cellCause (c : Nat) : Bool := c == causeInvArray || c == causeWinOvf || c == causeChain

/-- The numeric events of the conversion of a RAW tap (R109): the cause of an invalid or overflowed cell is reported as a drain of
its accumulator would, by the array, with the cell's position and the op ID of the TTAP (R71, R165). -/
def tapEvents (opid : Word) (wide : Bool) (t : Tap) (os : List POut) : List OpEv :=
  (os.filter (·.live)).map fun o =>
    if o.ev.causes.any cellCause then
      { opid := t.info.opid, ev := o.ev, unit := unitArray, pos := posArray t.tile (o.p % 128) (o.p / 128) }
    else planeEv opid wide o.p o.idx o.ev

/-- A primary or plain instance writes its output, and whatever `more` it writes, raises its numeric events and records its
witness. -/
def plCommit (b : Nat) (opid : Word) (fmt n : Nat) (wit : DWord) (evs : List OpEv) (more : Bench → Bench)
    (s : State) : State :=
  tensorRecord b opid fmt n wit (numEventsOf b opid evs (modBench b more s))

/-- An instruction has computed its output with witness `wit` (R173, R181, R189): a primary or plain instance commits it,
and a primary fills its shadow slot; a shadow copy sends its witness to its partner's slot and has no other effect. -/
def plWrite (b : Nat) (opid : Word) (mark : Option ShMark) (fmt n : Nat) (wit : DWord) (evs : List OpEv)
    (more : Bench → Bench) (s : State) : State :=
  match mark with
  | some m =>
    if m.copy then
      match physOf s m.partner with
      | some k => modBench k (fun x => { x with theirs := spIns m.tag wit x.theirs }) s
      | none => s
    else modBench b (fun x => { x with own := spIns m.tag { partner := m.partner, opid := opid, wit := some wit } x.own })
      (plCommit b opid fmt n wit evs more s)
  | none => plCommit b opid fmt n wit evs more s

/-- An instruction that reads the first `n` positions of a tap reads its last beat: one of column 95 (Table 4-5). -/
def tapLast (n : Nat) : Bool := decide (128 * 95 < n)

/-- The end of a plane instruction: an entry it read is released unless KEEP is set (R108), a tap that it read to the last beat
completes (R94, R179; a tap of which less was read stays, and is read from its first position again: DEDUCED, log entry 72), and
its own completion add is made (R166). No instruction is then in progress (Table 5-8). -/
def plEnd (b : Nat) (t : Stream) (pc : Nat) (w : IWord) (usedEntry tapRead : Bool) (s : State) : State :=
  let s := wrF (Rg.PLANE_STAT b) 9 8 3 s
  let s := if usedEntry ∧ plKeep w = false then modBench b (fun x => { x with outfeed := x.outfeed.tail }) s else s
  let s := if tapRead then
      match (bench s b).tap with
      | some p => completeAdd b p.cc (modBench b (fun x => { x with tap := none }) s)
      | none => s
    else s
  completeAdd b (ccOf { ce := true } t pc w) s

/-- Field checks common to the plane instructions (Tables 7-11 and 7-12): a listed function, RND and SRC2 not reserved,
PR where it is allowed, IMM 0 with NEXT unless it names a slot, and a zero SRC field for every unused source. -/
def plLegal (fns : List Nat) (uses : IWord → Bool × Bool × Bool) (prOk immSlot : Bool) (b : Nat) (w : IWord) (s : State) :
    Bool :=
  let u := uses w
  testClampOk b w s && fns.contains (plFn w) && w.mod.toNat % 4 != 3 && plSrc2 w != 3 && (prOk || !plPr w)
    && (immSlot || !plNext w || w.imm == 0) && (u.1 || plSrc0 w == 0) && (u.2.1 || plSrc1 w == 0)
    && (u.2.2 || plSrc2 w == 0)

/-- Field map of a plane instruction: the common fields of Table 7-11 and its flags in AUX. -/
def plMap (flags : Nat) : FieldMap :=
  { cq := 0xFF, g := true, ce := true, ix := true, mod := 0x3FF, aux := 0xFF80 + flags, d := true, imm := true, opid := true }

/-- Waits of a plane instruction before its issue: an outfeed entry not yet visible (R108), descriptors and inputs under
pending writes (R153, R170), and bank groups never granted (R143). -/
def plHold (b : Nat) (t : Stream) (wantsEntry : Bool) (slots : List Nat) (ranges outs : List (Nat × Nat)) (s : State) :
    Option (Option Stall × State) :=
  let x := bench s b
  if wantsEntry && (headEntry x).isNone then some (some .outfeed, satAdd (Rg.PLANE_OFQ_WAIT b) 1 s)
  else if sbHit x (slots.map slotRange ++ ranges) then some (some .tray, satAdd (Rg.BENCH_ILK_TRAY b) 1 s)
  else if banksGranted x t (ranges ++ outs) = false then some (some .grant, s)
  else none

/-- The sources and the output that an element-wise instruction names; `ix0` says that In0 gives the output indices alone, and no
element (R107, R181). -/
structure PSrc where
  u0  : Bool
  u1  : Bool
  u2  : Bool
  i0  : PIn
  i1  : PIn
  i2  : PIn
  out : SDesc
  n   : Nat
  ix0 : Bool := false
  deriving DecidableEq, Repr

/-- The used inputs with their number. -/
def PSrc.ins (p : PSrc) : List (Nat × PIn) :=
  (if p.u0 then [(0, p.i0)] else []) ++ (if p.u1 then [(1, p.i1)] else []) ++ (if p.u2 then [(2, p.i2)] else [])

/-- The byte ranges of the elements that the inputs give. -/
def PSrc.ranges (p : PSrc) : List (Nat × Nat) :=
  (p.ins.filter fun i => !(p.ix0 && i.1 == 0)).flatMap fun i => plRange i.2 p.n

/-- The instruction touches FX48 or FX64 elements (R106). -/
def PSrc.wide (p : PSrc) : Bool := wideAny (p.out.fmt :: p.ins.map fun i => i.2.fmt)

/-- Sources of word `w`, with descriptors moved by `qb`; n is COUNT of Out (section 7.7). -/
def plSources (x : Bench) (t : Stream) (w : IWord) (qb : Nat) (u : Bool × Bool × Bool) (kind2' : SrcKind) : PSrc :=
  let k := w.d.toNat
  let out := readDesc x (k + 3) qb
  let n := out.count
  { u0 := u.1, u1 := u.2.1, u2 := u.2.2, n := n, out := out,
    i0 := plIn x t (readDesc x k qb) (kind01 (plSrc0 w)) n,
    i1 := plIn x t (readDesc x (k + 1) qb) (kind01 (plSrc1 w)) n,
    i2 := plIn x t (readDesc x (k + 2) qb) kind2' n }

def PSrc.usesEntry (p : PSrc) : Bool := (p.u0 && p.i0.kind == .entry) || (p.u1 && p.i1.kind == .entry)
def PSrc.usesTap (p : PSrc) : Bool := (p.u0 && p.i0.kind == .tap) || (p.u1 && p.i1.kind == .tap)
/-- The instruction reads a tap to its last beat. -/
def PSrc.tapRead (p : PSrc) : Bool := p.usesTap && tapLast p.n

/-- A tap that no TTAP of the stream provides, or a RAW one that the instruction cannot read, is named (R109, R179): the format of
such a source is not judged. -/
def PSrc.tapBad (p : PSrc) (rawOk : Bool) : Bool := p.ins.any fun i =>
  i.2.kind == .tap && (i.2.gone || (i.2.raw.isSome && !(rawOk && i.1 == 0)))

/-- The slots whose descriptors the sequencer reads (section 7.7): those of tray, scalar and predicate sources and of
Out. -/
def PSrc.slots (p : PSrc) (k : Nat) : List Nat :=
  (p.ins.filterMap fun i => if i.2.kind == .entry || i.2.kind == .tap then none else some (k + i.1)) ++ [k + 3]

/-- The sources of an element-wise instruction that uses `uses`. -/
def elemSrc (uses : IWord → Bool × Bool × Bool) (b : Nat) (t : Stream) (w : IWord) (s : State) : PSrc :=
  plSources (bench s b) t w (qbTray s b t w) (uses w) (kind2 (plSrc2 w))

/-- The logical index of output position `q` (R107, R181). -/
def outIdx (p : PSrc) (q : Nat) : Nat :=
  if p.out.own || !p.u0 then (p.out.idx + q) % 2 ^ 48 else (elAt p.i0 q).idx

/-- The bytes of the scale or exponent of each block that an output descriptor's indices `ixs` lie in (R171). -/
def scaleRanges (d : SDesc) (ixs : List Nat) : List (Nat × Nat) :=
  let b := fmtBlock d.fmt
  if b = 0 then []
  else ((ixs.map (· / b)).foldr setIns []).map fun k => ((scaleAddr d (b * k)).toNat, scaleSize d.fmt)

/-- The bytes of Out's scales or exponents. -/
def PSrc.outScales (p : PSrc) : List (Nat × Nat) := scaleRanges p.out ((List.range p.n).map (outIdx p))

/-- The waits of an instruction with sources `p`, one that reads Out's exponents (`rdExp`) or writes them (R143, R153). -/
def srcHold (p : PSrc) (rdExp : Bool) (b : Nat) (t : Stream) (w : IWord) (s : State) : Option (Option Stall × State) :=
  plHold b t p.usesEntry (p.slots w.d.toNat) (p.ranges ++ (if rdExp then p.outScales else []))
    ((p.out.addr, elemBytes p.out.fmt p.n) :: p.outScales) s

/-- The waits of an element-wise instruction. -/
def elemHold (uses : IWord → Bool × Bool × Bool) (rdExp : Bool) (b : Nat) (t : Stream) (w : IWord) (s : State) :
    Option (Option Stall × State) :=
  srcHold (elemSrc uses b t w s) rdExp b t w s

/-- Position `q` is processed: present in every input and, when predicated, with its predicate bit set (R112, R468). -/
def isLive (w : IWord) (p : PSrc) (q : Nat) : Bool :=
  plHere (p.ins.map (·.2)) q && (!plPr w || (elAt p.i2 q).bits == 1)

/-- The scale or exponent of a written element would lie beyond the tray (R171). -/
def outScaleBad (w : IWord) (p : PSrc) : Bool :=
  fmtBlock p.out.fmt != 0 && (List.range p.n).any fun q => isLive w p q && scaleOut p.out (outIdx p q)

/-- An element-wise instruction's rules that hold for each of them (R109, R112, R169, R171, R468, Table 7-11). -/
def elemBad (w : IWord) (p : PSrc) (rawOk : Bool) : List (Bool × Nat) :=
  (p.ins.flatMap fun i => plInBad i.2 p.n) ++ plOutBad p.out p.n ++
  [(plPr w && plSrc2 w != 2, xStreamKind),
   (plOverlap p.ins p.out p.n p.n, xStreamKind),
   (p.ins.any fun i => i.2.raw.isSome && !(rawOk && i.1 == 0), xStreamKind),
   (p.ins.any fun i => i.2.kind != .pred && i.2.fmt == fPred, xDesc),
   (outScaleBad w p, xTrayRange)]

/-- Of `k` draws that an instruction takes, those that missed the grain buffers are counted (R128): how many is a matter of timing
that the model does not keep, a free value (log entry 32). -/
def grainMiss (b k : Nat) (s : State) : State :=
  if k = 0 then s
  else
    let f := takeFree s
    satAdd (Rg.PLANE_GRAIN_MISS b) (f.1.toNat % (k + 1)) f.2

/-- The numeric events of an element-wise output; those of a RAW tap, which is read at 32 elements a cycle (Table 5-2), with the
first trap in front (R77). -/
def PSrc.events (p : PSrc) (opid : Word) (os : List POut) : List OpEv :=
  match p.i0.raw with
  | some t =>
    let es := ((os.filter (·.live)).zip (tapEvents opid p.wide t os)).map fun e => (4 * (e.1.p / 32) + e.2.unit, e.2)
    (frontBy (·.1) (·.2.ev.causes != []) es).map (·.2)
  | none => outEvents opid p.wide os

/-- The tail shared by the element-wise instructions (R181): GRAIN_KEY when draws are taken without a key, the output,
the draw counter, the release of sources and completion. Elements beyond the tensor's end (R129) are written and not
witnessed: the witness is that of the tensor's elements (R38). `rdExp` says that it reads Out's exponents. -/
def elemFinish (b : Nat) (t : Stream) (w : IWord) (pc : Nat) (mark : Option ShMark) (p : PSrc) (dr : Draws)
    (takes scales rdExp : Bool) (os : List POut) (s : State) : State :=
  let s := trayUeReport b ((p.slots w.d.toNat).map slotRange ++ p.ranges ++ (if rdExp then p.outScales else [])) s
  let draws := if takes then (os.filter (·.live)).length else 0
  let s := grainKey b t pc w.opid dr (draws ≠ 0) s
  let s := grainMiss b (if dr.keyOk then draws else 0) s
  let s := plWrite b w.opid mark p.out.fmt p.n (outWitness p.out.fmt (os.filter (·.p < p.n))) (p.events w.opid os)
    (putOut p.out scales os) s
  let s := nextDraw b t pc w.opid (plNext w) (draws ≠ 0 && !dr.keyOk) s
  plEnd b t pc w p.usesEntry p.tapRead s

/-- Draws of a plane instruction: the rounding and the draw number of its fields (R181). -/
def plDraws (s : State) (b : Nat) (t : Stream) (w : IWord) : Draws :=
  drawsOf (str s b t) (plRnd w) (plNext w) w.imm.toNat

/-- An element-wise instruction whose output positions `outs` gives from its sources and draws; GRAIN_KEY arises from
stochastic rounding alone (R126). -/
def elemRun (uses : IWord → Bool × Bool × Bool) (scales rdExp : Bool) (outs : NumMode → IWord → PSrc → Draws → List POut)
    (b : Nat) (t : Stream) (w : IWord) (pc : Nat) (mark : Option ShMark) (s : State) : State :=
  let p := elemSrc uses b t w s
  let dr := plDraws s b t w
  elemFinish b t w pc mark p dr (dr.rnd = .sr) scales rdExp (outs (numMode s) w p dr) s

/-- An input flushed its operand (R78). -/
def flushEv (ds : List Dec) : Nev := if ds.any (·.fl) then nevFlush else nevNone

/-- The events of one element operation on operands `ds` with outcome events `o`: FLUSH counts once, whether an operand or the
result was flushed, or both (R78; DEDUCED, log entry 36). -/
def opEv (ds : List Dec) (o : Nev) : Nev := if ds.any (·.fl) then { o with flush := 1 } else o

end Sys2Proof.Machine
end

