-- ==== Sys2Proof/Machine/PlaneElem.lean ====
section
/-! DEFINITION. The element-wise plane instructions (R111 to R113, R120, R127, R129 to R131, R181): VOP, VFMA, VCVT, VTRF,
VGRAIN, VVEN, VUNV. -/

namespace Sys2Proof.Machine

/-! ### VOP (Table 5-3) -/

inductive VFn where
  | add | sub | mul | max | min | abs | neg | cmpeq | cmpne | cmplt | cmple | sel | and | or | xor | shl | shr
  | fxadd | fxsub
  deriving DecidableEq, Repr

def vopFns : List Nat := [0x00, 0x01, 0x02, 0x03, 0x04, 0x05, 0x06, 0x08, 0x09, 0x0A, 0x0B, 0x0C, 0x10, 0x11, 0x12, 0x13,
  0x14, 0x18, 0x19]

def vfnOf (c : Nat) : VFn :=
  match c with
  | 0x00 => .add | 0x01 => .sub | 0x02 => .mul | 0x03 => .max | 0x04 => .min | 0x05 => .abs | 0x06 => .neg
  | 0x08 => .cmpeq | 0x09 => .cmpne | 0x0A => .cmplt | 0x0B => .cmple | 0x0C => .sel | 0x10 => .and | 0x11 => .or
  | 0x12 => .xor | 0x13 => .shl | 0x14 => .shr | 0x18 => .fxadd | _ => .fxsub

def VFn.isCmp (f : VFn) : Bool := f = .cmpeq || f = .cmpne || f = .cmplt || f = .cmple
def VFn.isBit (f : VFn) : Bool := f = .and || f = .or || f = .xor || f = .shl || f = .shr
def VFn.unary (f : VFn) : Bool := f = .abs || f = .neg

def vopUses (w : IWord) : Bool × Bool × Bool :=
  let f := vfnOf (plFn w)
  (true, !f.unary, f = .sel || plPr w)

def isWord (f : Nat) : Bool := f = fRaw || f = fS32

/-- The formats a VOP function accepts (R112, R113, R466): inputs `fa` and `fb` (equal for one operand) and output. -/
def vopFmtOk (f : VFn) (fa fb fo : Nat) : Bool :=
  if f.isBit then isWord fa && isWord fb && isWord fo
  else if f = .fxadd ∨ f = .fxsub then fmtFx fa && fmtFx fb && fmtFx fo
  else if f.isCmp then
    fo == fPred && ((fmtElem fa && fmtElem fb) || (fmtFx fa && fmtFx fb)
      || ((f = .cmpeq || f = .cmpne) && isWord fa && isWord fb))
  else if f = .sel then
    (isWord fa && isWord fb && isWord fo) || (fmtElem fa && fmtElem fb && fmtElem fo) || (fmtFx fa && fmtFx fb && fmtFx fo)
  else if f = .add ∨ f = .sub ∨ f = .mul then fmtElem fa && fmtElem fb && fmtElem fo
  else (fmtElem fa && fmtElem fb && fmtElem fo) || (fmtFx fa && fmtFx fb && fmtFx fo)

/-- The bitwise functions on 32-bit words (Table 5-3). -/
def vopBits (f : VFn) (fa a b : Nat) : Nat :=
  match f with
  | .and => a &&& b
  | .or => a ||| b
  | .xor => a ^^^ b
  | .shl => if 32 ≤ b then 0 else a * 2 ^ b % 2 ^ 32
  | _ => if fa = fS32 then ofSigned 32 (toSigned 32 a / 2 ^ min b 32) else if 32 ≤ b then 0 else a / 2 ^ b

/-- A comparison (Table 3-6). -/
def vopCmp (f : VFn) (a b : Dec) : Bool :=
  match f with
  | .cmpeq => decEq a b
  | .cmpne => !decEq a b
  | .cmplt => decLt a b
  | _ => decLt a b || decEq a b

/-- MAX and MIN of Table 3-6. -/
def decMax (a b : Dec) : Dec :=
  if a.cls = .nan ∨ b.cls = .nan then { cls := .nan, neg := false } else if decBelow a b then b else a
def decMin (a b : Dec) : Dec :=
  if a.cls = .nan ∨ b.cls = .nan then { cls := .nan, neg := false } else if decBelow b a then b else a

/-- One element of a VOP function on element formats (R111). -/
def vopEl (md : NumMode) (f : VFn) (a b : Dec) (fo : Nat) (rnd : Rnd) (r : Nat) : Nat × Nev :=
  match f with
  | .add => convertDec md (decAdd a b) fo rnd r
  | .sub => convertDec md (decAdd a (decNeg b)) fo rnd r
  | .mul => convertDec md (decMul a b) fo rnd r
  | .max => convertDec md (decMax a b) fo rnd r
  | .min => convertDec md (decMin a b) fo rnd r
  | .abs => convertDec md (decAbs a) fo rnd r
  | .neg => convertDec md (decNeg a) fo rnd r
  | .cmpeq | .cmpne | .cmplt | .cmple => (b2n (vopCmp f a b), nevNone)
  | _ => convertDec md a fo rnd r

/-- An FX element given block exponent `e` in width `n` (R65). At its own exponent it keeps its value, headroom included (R64): it
is floored onto the grid of a narrower width, and no more (log entry 36). -/
def fxAlign (n : Nat) (e : Int) (f : Nat) (x : El) : Int × Nev :=
  let v := toSigned (fxN f) x.bits
  if v = 0 ∨ x.ex = zeroE ∨ e = zeroE then (0, nevNone)
  else if x.ex = e then
    let k : Int := (fxF n : Int) - fxF (fxN f)
    (scaleFloor v k, if msb v.natAbs + k < 0 then nevUfl else nevNone)
  else toFx n e x.dec

/-- An exact FX value placed in width `n` (R64). -/
def fxPlace (n : Nat) (v : Int) : Nat × Nev :=
  if fxSat n false < v then (ofSigned n (fxSat n false), nevCause causeFxOvf)
  else if v < fxSat n true then (ofSigned n (fxSat n true), nevCause causeFxOvf)
  else (ofSigned n v, nevNone)

/-- The exact FX value of a VOP function on aligned operands (R113). -/
def vopFx (f : VFn) (a b : Int) : Int :=
  match f with
  | .fxadd => a + b
  | .fxsub => a - b
  | .abs => |a|
  | .neg => -a
  | .max => max a b
  | .min => min a b
  | _ => a

/-- The largest block exponents of the contributing input blocks, by output block (R113). -/
def fxBlocks (l : List (Nat × Int)) : Sparse Int :=
  l.foldl (fun m e => spIns (e.1 / 256) (max (spGet zeroE (e.1 / 256) m) e.2) m) []

/-- The output positions of a VOP. -/
def vopOuts (md : NumMode) (w : IWord) (p : PSrc) (dr : Draws) : List POut :=
  let f := vfnOf (plFn w)
  let one := f.unary
  let fa := p.i0.fmt
  let fb := if one then fa else p.i1.fmt
  let fo := p.out.fmt
  let pick (q : Nat) : Bool := (elAt p.i2 q).bits == 1
  let live := (List.range p.n).map fun q => (q, isLive w p q, outIdx p q)
  if f.isBit || (isWord fa && isWord fb && ((f = .sel && isWord fo) || ((f = .cmpeq || f = .cmpne) && (fa = fRaw || fb = fRaw))))
  then
    live.map fun (q, lv, ix) =>
      let a := (elAt p.i0 q).bits
      let b := (elAt p.i1 q).bits
      let v := if f = .sel then (if pick q then a else b)
        else if f = .cmpeq then b2n (a == b) else if f = .cmpne then b2n (a != b) else vopBits f fa a b
      { p := q, live := lv, idx := ix, bits := v }
  else if fmtFx fa then
    let used (q : Nat) : List (Nat × Int) :=
      let ea := (outIdx p q, (elAt p.i0 q).ex)
      let eb := (outIdx p q, (elAt p.i1 q).ex)
      if one then [ea] else if f = .sel then (if pick q then [ea] else [eb]) else [ea, eb]
    let blocks := fxBlocks ((live.filter (·.2.1)).flatMap fun (q, _, _) => used q)
    let n := if f.isCmp then max (fxN fa) (fxN fb) else fxN fo
    live.map fun (q, lv, ix) =>
      let e := spGet zeroE (ix / 256) blocks
      let a := fxAlign n e fa (elAt p.i0 q)
      let b := if one then (0, nevNone) else fxAlign n e fb (elAt p.i1 q)
      if f.isCmp then
        { p := q, live := lv, idx := ix, bits := b2n (vopCmp f (decInt a.1 0) (decInt b.1 0)), ev := a.2.join b.2 }
      else if f = .sel then
        let c := if pick q then a else b
        let o := fxPlace n c.1
        { p := q, live := lv, idx := ix, bits := o.1, ex := e, ev := c.2.join o.2 }
      else
        let o := fxPlace n (vopFx f a.1 b.1)
        { p := q, live := lv, idx := ix, bits := o.1, ex := e, ev := (a.2.join b.2).join o.2 }
  else
    live.map fun (q, lv, ix) =>
      let a := (elAt p.i0 q).dec
      let b := if one then a else (elAt p.i1 q).dec
      let c := if f = .sel then (if pick q then a else b) else a
      let o := vopEl md f c b fo dr.rnd (drawR dr ix)
      let ds := if f = .sel then [c] else if one then [a] else [a, b]
      { p := q, live := lv, idx := ix, bits := o.1, ev := opEv ds o.2 }

/-- VOP (R111 to R113, R181). -/
def spVop : ISpec where
  opc := 0x30
  map := plMap 0
  legal := plLegal vopFns vopUses true false
  res := some dtPlane
  shad := fun _ => true
  hold := elemHold vopUses false
  rules := fun b t w s =>
    let p := elemSrc vopUses b t w s
    let f := vfnOf (plFn w)
    let fb := if f.unary then p.i0.fmt else p.i1.fmt
    elemBad w p false ++
      [(f = .sel && plSrc2 w != 2, xStreamKind), (!p.tapBad false && !vopFmtOk f p.i0.fmt fb p.out.fmt, xDesc)]
  run := elemRun vopUses true false vopOuts
def execVop (b : Nat) (t : Stream) (w : IWord) (s : State) : Out := .next (issue spVop b t w s)

/-- VFMA (R111): a × b + c with one rounding. -/
def vfmaUses (_ : IWord) : Bool × Bool × Bool := (true, true, true)
def vfmaOuts (md : NumMode) (w : IWord) (p : PSrc) (dr : Draws) : List POut :=
  (List.range p.n).map fun q =>
    let ix := outIdx p q
    let a := (elAt p.i0 q).dec
    let m := (elAt p.i1 q).dec
    let c := (elAt p.i2 q).dec
    let o := convertDec md (decAdd (decMul a m) c) p.out.fmt dr.rnd (drawR dr ix)
    { p := q, live := isLive w p q, idx := ix, bits := o.1, ev := opEv [a, m, c] o.2 }

def spVfma : ISpec where
  opc := 0x31
  map := plMap 0
  legal := plLegal [0] vfmaUses true false
  res := some dtPlane
  shad := fun _ => true
  hold := elemHold vfmaUses false
  rules := fun b t w s =>
    let p := elemSrc vfmaUses b t w s
    elemBad w p false ++
      [(!plPr w && plSrc2 w == 2, xStreamKind),
       (!p.tapBad false && !(fmtElem p.i0.fmt && fmtElem p.i1.fmt && fmtElem p.i2.fmt && fmtElem p.out.fmt), xDesc)]
  run := elemRun vfmaUses false false vfmaOuts
def execVfma (b : Nat) (t : Stream) (w : IWord) (s : State) : Out := .next (issue spVfma b t w s)

/-! ### VCVT (R69, R63, R71, R109) -/

def uses0 (w : IWord) : Bool × Bool × Bool := (true, false, plPr w)

/-- Formats of a conversion (R113, R466): a RAW tap into any element or FX format; raw words among themselves and with
S32; element and FX formats into each other. -/
def vcvtFmtOk (rawTap : Bool) (fi fo : Nat) : Bool :=
  if rawTap then fmtElem fo || fmtFx fo
  else (isWord fi && isWord fo) || ((fmtElem fi || fmtFx fi) && (fmtElem fo || fmtFx fo))

/-- One conversion of a decoded element into format `fo`, with block exponent `eo` when it is FX. -/
def vcvtEl (md : NumMode) (fi : Nat) (x : El) (fo : Nat) (eo : Int) (rnd : Rnd) (r : Nat) : Nat × Nev :=
  if fmtFx fo then
    let o := toFx (fxN fo) eo x.dec
    (ofSigned (fxN fo) o.1, o.2)
  else if fmtFx fi ∧ x.dec.cls = .zero then (encZero fo false, nevNone)
  else convertDec md x.dec fo rnd r

/-- The output positions of a VCVT, FX elements at the exponents of Out's own array, which the conversion reads from the tray
`x` (R63, R71, R109). -/
def vcvtOuts (x : Bench) (md : NumMode) (w : IWord) (p : PSrc) (dr : Draws) : List POut :=
  let fo := p.out.fmt
  (List.range p.n).map fun q =>
    let ix := outIdx p q
    let eo := if fmtFx fo then fxExpAt x p.out.saddr p.out.idx ix else zeroE
    let e := elAt p.i0 q
    let o : Nat × Nev := match p.i0.raw with
      | some tp =>
        let c := tp.raw.getD q (0, {}, false)
        if fmtFx fo then
          let o := drainFx c.1 c.2.1 c.2.2 tp.l (fxN fo) eo
          (ofSigned (fxN fo) o.1, o.2)
        else drainEl md c.1 c.2.1 c.2.2 tp.l fo dr.rnd (drawR dr ix)
      | none =>
        if isWord p.i0.fmt && isWord fo && (p.i0.fmt == fRaw || fo == fRaw) then (e.bits, nevNone)
        else vcvtEl md p.i0.fmt e fo eo dr.rnd (drawR dr ix)
    { p := q, live := isLive w p q, idx := ix, bits := o.1, ex := eo, ev := opEv [e.dec] o.2 }

def spVcvt : ISpec where
  opc := 0x35
  map := plMap 0
  legal := plLegal [0] uses0 true false
  res := some dtPlane
  shad := fun _ => true
  hold := fun b t w s => elemHold uses0 (fmtFx (elemSrc uses0 b t w s).out.fmt) b t w s
  rules := fun b t w s =>
    let p := elemSrc uses0 b t w s
    elemBad w p true ++ [(!p.tapBad true && !vcvtFmtOk p.i0.raw.isSome p.i0.fmt p.out.fmt, xDesc)]
  run := fun b t w pc mark s =>
    elemRun uses0 false (fmtFx (elemSrc uses0 b t w s).out.fmt) (vcvtOuts (bench s b)) b t w pc mark s
def execVcvt (b : Nat) (t : Stream) (w : IWord) (s : State) : Out := .next (issue spVcvt b t w s)

/-! ### VTRF (R120, R122) -/

def isTrfFmt (f : Nat) : Bool := f = 1 || f = 2 || f = 3

def vtrfOuts (md : NumMode) (w : IWord) (p : PSrc) (_ : Draws) : List POut :=
  (List.range p.n).map fun q =>
    let e := (elAt p.i0 q).dec
    let o := trfEl md (trfOf (plFn w)) e p.out.fmt
    { p := q, live := isLive w p q, idx := outIdx p q, bits := o.1, ev := opEv [e] o.2 }

def spVtrf : ISpec where
  opc := 0x36
  map := plMap 0
  legal := plLegal [0, 1, 2, 3, 4, 5, 6, 7] uses0 true false
  res := some dtPlane
  shad := fun _ => true
  hold := elemHold uses0 false
  rules := fun b t w s =>
    let p := elemSrc uses0 b t w s
    elemBad w p false ++ [(!p.tapBad false && !(isTrfFmt p.i0.fmt && isTrfFmt p.out.fmt), xDesc)]
  run := elemRun uses0 false false vtrfOuts
def execVtrf (b : Nat) (t : Stream) (w : IWord) (s : State) : Out := .next (issue spVtrf b t w s)

/-! ### VGRAIN (R125 to R127, R181) -/

def vgrainFns : List Nat := [0, 1, 2, 3, 4, 7]
/-- KEY names 16 bytes at In0; BERN reads P as an In2 scalar. The forms that draw read no element of In0 (Table 7-12): its
descriptor gives the output indices unless Out has OWN = 1, and is then not read (R107, R181). -/
def vgrainUses (w : IWord) : Bool × Bool × Bool :=
  if plFn w = 7 then (true, false, false) else (true, false, plFn w == 3 || plPr w)
/-- The sources whose SRC field may be nonzero (R164, Table 7-12). -/
def vgrainReads (w : IWord) : Bool × Bool × Bool :=
  if plFn w = 7 then (true, false, false) else (false, false, plFn w == 3 || plPr w)

/-- The value of the draw `g` by form (Table 5-6); without a key the draw is 0 (R126, R181). -/
def grainForm (md : NumMode) (fn : Nat) (g p : Nat) : Nat × Nev :=
  match fn with
    | 0 => (g % 2 ^ 32, nevNone)
    | 1 => roundTo md fFp32 false (g / 2 ^ 40) (-24) .rne 0
    | 2 => roundTo md fFp32 false (2 * (g / 2 ^ 41) + 1) (-24) .rne 0
    | 3 => (b2n (decide (g % 2 ^ 32 < p)), nevNone)
    | _ => gumbel md g

/-- The key bytes of a VGRAIN KEY (R181): its descriptor and the 16 bytes it names. -/
def grainKeyDesc (s : State) (b : Nat) (t : Stream) (w : IWord) : SDesc := readDesc (bench s b) w.d.toNat (qbTray s b t w)
def grainKeyBytes (s : State) (b : Nat) (t : Stream) (w : IWord) : List Byte :=
  trayBytes (bench s b) (grainKeyDesc s b t w).addr 16

/-- VGRAIN KEY (R126, R181): the stream's grain context takes seed, stream value and counter from 16 tray bytes. -/
def grainKeyLoad (b : Nat) (t : Stream) (pc : Nat) (w : IWord) (s : State) : State :=
  let bs := grainKeyBytes s b t w
  let s := trayUeReport b [slotRange w.d.toNat, ((grainKeyDesc s b t w).addr, 16)] s
  let s := modStr b t (fun y => { y with
    seed := BitVec.ofNat 64 (leNat (bs.take 8)), strv := BitVec.ofNat 32 (leNat ((bs.drop 8).take 4)),
    cnt := BitVec.ofNat 16 (leNat ((bs.drop 12).take 2)), keyOk := true }) s
  completeAdd b (ccOf { ce := true } t pc w) s

/-- The sources and the output of a VGRAIN that draws: In0 is not read where Out gives the indices (R107, R181). P of BERN is
PARAM in the scalar's format, any that a scalar source may have, raw words among them (R127, R466; DESIGN CHOICE, log entry
71). -/
def vgrainSources (s : State) (b : Nat) (t : Stream) (w : IWord) : PSrc :=
  let k2 := if plFn w = 3 then (if plPr w then SrcKind.pred else kind2 (plSrc2 w)) else kind2 (plSrc2 w)
  let p := plSources (bench s b) t w (qbTray s b t w) (vgrainUses w) k2
  { p with u0 := !p.out.own, ix0 := true }

/-- The output positions of a VGRAIN that draws. -/
def vgrainOuts (md : NumMode) (w : IWord) (p : PSrc) (dr : Draws) : List POut :=
  (List.range p.n).map fun q =>
    let ix := outIdx p q
    let o := grainForm md (plFn w) (draw64 dr ix) (elAt p.i2 q).bits
    { p := q, live := isLive w p q, idx := ix, bits := o.1, ev := o.2 }

/-- VGRAIN (R127, R181). The KEY descriptor may carry any known format (DESIGN CHOICE, log entry 71), whose alignment its address
keeps (R171). -/
def spVgrain : ISpec where
  opc := 0x37
  map := plMap 0
  legal := fun b w s => plLegal vgrainFns vgrainReads (plFn w != 7) false b w s
  res := some dtPlane
  shad := fun w => plFn w != 7
  hold := fun b t w s =>
    if plFn w = 7 then plHold b t false [w.d.toNat] [((grainKeyDesc s b t w).addr, 16)] [] s
    else srcHold (vgrainSources s b t w) false b t w s
  rules := fun b t w s =>
    if plFn w = 7 then
      let k := w.d.toNat
      let d := grainKeyDesc s b t w
      [(decide (slotEnd ≤ k) || decide (trayEnd < d.addr + 16) || rangeBad d 0 false, xTrayRange),
       (fieldBad d false || leNat ((grainKeyBytes s b t w).drop 14) ≠ 0, xDesc),
       (plSrc0 w != 0, xStreamKind)]
    else
      let fn := plFn w
      let p := vgrainSources s b t w
      let fo := p.out.fmt
      let fmtOk := if fn = 0 then isWord fo else if fn = 3 then fo == fPred else fo == fFp32
      elemBad w p false ++ [(fn = 3 && plSrc2 w != 1, xStreamKind), (!fmtOk || (p.u0 && p.i0.fmt == fRaw), xDesc)]
  run := fun b t w pc mark s =>
    if plFn w = 7 then grainKeyLoad b t pc w s
    else
      let p := vgrainSources s b t w
      let dr := plDraws s b t w
      elemFinish b t w pc mark p dr true false false (vgrainOuts (numMode s) w p dr) s
def execVgrain (b : Nat) (t : Stream) (w : IWord) (s : State) : Out := .next (issue spVgrain b t w s)

/-! ### Veneer (R129 to R131) -/

def anyNum (f : Nat) : Bool := fmtElem f || fmtFx f || fmtMx f

/-- The positions of a list by the MX block of their output index (R51), those of a block in their order. -/
def mxBlocks (p : PSrc) (qs : List Nat) : Sparse (List Nat) :=
  qs.foldr (fun q m => spIns (outIdx p q / 32) (q :: spGet [] (outIdx p q / 32) m) m) []

/-- One block of an MX pack (R72), at its written positions `qs`. -/
def vvenBlock (md : NumMode) (p : PSrc) (dr : Draws) (qs : List Nat) : List POut :=
  let r := mxPack md p.out.fmt (qs.map fun q => (some (elAt p.i0 q).dec, drawR dr (outIdx p q))) dr.rnd
  (qs.zip r.2).map fun (q, o) =>
    { p := q, live := true, idx := outIdx p q, bits := o.1, ex := r.1, ev := opEv [(elAt p.i0 q).dec] o.2 }

/-- The output positions of an MX pack: the blocks of 32 logical indices (R51), each packed by mx_pack; the unused elements of
the last block are written as 0, and no other position is (R129, R112). -/
def vvenMx (md : NumMode) (w : IWord) (p : PSrc) (dr : Draws) : List POut :=
  let os := (mxBlocks p ((List.range p.n).filter (isLive w p))).flatMap fun e => vvenBlock md p dr e.2
  let at' := os.foldl (fun (m : Sparse POut) o => spIns o.p o m) []
  ((List.range p.n).map fun q => (spFind q at').getD { p := q, live := false, idx := outIdx p q }) ++
    ((List.range (32 * ((p.n + 31) / 32) - p.n)).map fun k =>
      { p := p.n + k, live := true, idx := (outIdx p (p.n - 1) + 1 + k) % 2 ^ 48 })

/-- The output positions of a VVEN: an MX pack, or plain elements rounded into bf16 (R129, R130). -/
def vvenOuts (md : NumMode) (w : IWord) (p : PSrc) (dr : Draws) : List POut :=
  if fmtMx p.out.fmt then vvenMx md w p dr
  else (List.range p.n).map fun q =>
    let ix := outIdx p q
    let e := elAt p.i0 q
    let o := vcvtEl md p.i0.fmt e p.out.fmt zeroE dr.rnd (drawR dr ix)
    { p := q, live := isLive w p q, idx := ix, bits := o.1, ev := opEv [e.dec] o.2 }

def spVven : ISpec where
  opc := 0x38
  map := plMap 0
  legal := plLegal [0] uses0 true false
  res := some dtPlane
  shad := fun _ => true
  hold := elemHold uses0 false
  rules := fun b t w s =>
    let p := elemSrc uses0 b t w s
    let fo := p.out.fmt
    elemBad w p false ++
      [(fmtMx fo && rangeBad p.out (32 * ((p.n + 31) / 32)) false, xTrayRange),
       (!p.tapBad false && !(anyNum p.i0.fmt && (fmtMx fo || fo == 2)), xDesc),
       (outIdx p 0 % 32 ≠ 0, xScanRange)]
  run := elemRun uses0 true false vvenOuts
def execVven (b : Nat) (t : Stream) (w : IWord) (s : State) : Out := .next (issue spVven b t w s)

/-- The output positions of a VUNV (R131). -/
def vunvOuts (md : NumMode) (w : IWord) (p : PSrc) (_ : Draws) : List POut :=
  (List.range p.n).map fun q =>
    let e := (elAt p.i0 q).dec
    let o := convertDec md e p.out.fmt .rne 0
    { p := q, live := isLive w p q, idx := outIdx p q, bits := o.1, ev := opEv [e] o.2 }

def spVunv : ISpec where
  opc := 0x39
  map := plMap 0
  legal := plLegal [0] uses0 true false
  res := some dtPlane
  shad := fun _ => true
  hold := elemHold uses0 false
  rules := fun b t w s =>
    let p := elemSrc uses0 b t w s
    elemBad w p false ++
      [(plSrc0 w != 0, xStreamKind), ((plSrc0 w == 0 && !fmtMx p.i0.fmt) || !isTrfFmt p.out.fmt, xDesc)]
  run := elemRun uses0 false false vunvOuts
def execVunv (b : Nat) (t : Stream) (w : IWord) (s : State) : Out := .next (issue spVunv b t w s)

end Sys2Proof.Machine
end

