-- ==== Sys2Proof/Machine/PlaneRed.lean ====
section
/-! DEFINITION. Reductions, scans and witnesses of the plane (R30, R113 to R119, R182 to R184): VRED, VSCAN, VASCAN,
WITNESS. -/

namespace Sys2Proof.Machine

/-! ### The canonical tree (R30). An absent position takes no part (R468). -/

/-- A combine function on positions that may be absent. -/
def oc {α : Type} (c : α → α → α) : Option α → Option α → Option α
  | none, r => r
  | l, none => l
  | some l, some r => some (c l r)

/-- Left-to-right fold of a block. -/
def foldBlk {α : Type} (c : α → α → α) (l : List (Option α)) : Option α := l.foldl (oc c) none

/-- Logical blocks of 128 positions; the first argument bounds their number. -/
def blocks128 {α : Type} : Nat → List α → List (List α)
  | 0, _ => []
  | _ + 1, [] => []
  | n + 1, l => l.take 128 :: blocks128 n (l.drop 128)

/-- One level of the aligned binary tree; a node without a right child is carried up. -/
def pairUp {α : Type} (c : α → α → α) : List (Option α) → List (Option α)
  | a :: b :: t => oc c a b :: pairUp c t
  | l => l

/-- The root over the nodes of one level; the first argument bounds the levels. -/
def treeUp {α : Type} (c : α → α → α) : Nat → List (Option α) → Option α
  | _, [] => none
  | _, [v] => v
  | 0, _ => none
  | n + 1, l => treeUp c n (pairUp c l)

/-- reduce of R30. -/
def canonReduce {α : Type} (c : α → α → α) (xs : List (Option α)) : Option α :=
  treeUp c 48 ((blocks128 xs.length xs).map (foldBlk c))

/-- The aligned nodes that cover the blocks met so far, smallest first, and a block more: two nodes of one level
combine, the earlier first. -/
def pushNode {α : Type} (c : α → α → α) : Nat → Option α → List (Nat × Option α) → List (Nat × Option α)
  | lvl, v, [] => [(lvl, v)]
  | lvl, v, (l, u) :: t => if l = lvl then pushNode c (lvl + 1) (oc c u v) t else (lvl, v) :: (l, u) :: t

/-- The carry and the aligned nodes, folded from the largest to the smallest (R30, R119). -/
def nodesFold {α : Type} (c : α → α → α) (carry : Option α) (ns : List (Nat × Option α)) : Option α :=
  ns.foldr (fun e p => oc c p e.2) carry

/-- Exclusive and inclusive prefixes inside a block, after the prefix `p` of the earlier blocks. At the first position of a
block the exclusive prefix is `p`, so that a carry gives it too (R119; DEDUCED, log entry 20). -/
def blkPrefix {α : Type} (c : α → α → α) (p : Option α) : Option α → List (Option α) → List (Option α × Option α)
  | _, [] => []
  | v, x :: t => (oc c p v, oc c p (oc c v x)) :: blkPrefix c p (oc c v x) t

def prefixBlocks {α : Type} (c : α → α → α) (carry : Option α) :
    List (Nat × Option α) → List (List (Option α)) → List (Option α × Option α)
  | _, [] => []
  | ns, blk :: t =>
    blkPrefix c (nodesFold c carry ns) none blk ++ prefixBlocks c carry (pushNode c 0 (foldBlk c blk) ns) t

/-- The exclusive and the inclusive prefix at each position of a range (R30, R119). -/
def canonPrefix {α : Type} (c : α → α → α) (carry : Option α) (xs : List (Option α)) : List (Option α × Option α) :=
  prefixBlocks c carry [] (blocks128 xs.length xs)

/-! ### Combine functions (Table 5-4, R117) -/

/-- rn of R117: rounded to FP32 with RNE. -/
def rn (md : NumMode) (d : Dec) : Dec := decode fFp32 (convertDec md d fFp32 .rne 0).1

def cSum (md : NumMode) (l r : Dec) : Dec := rn md (decAdd l r)

/-- An element of a scan with its segment flag; `a` is used by VASCAN alone. -/
structure SegV where
  f : Bool
  a : Dec
  v : Dec
  deriving DecidableEq, Repr

/-- The segmented form of a combine function (R117); in the plain form every flag is 0. -/
def segC (c : Dec → Dec → Dec) (l r : SegV) : SegV := if r.f then r else { l with v := c l.v r.v }

/-- c_aff of R117. -/
def cAff (md : NumMode) (l r : SegV) : SegV :=
  if r.f then r else { f := l.f, a := rn md (decMul r.a l.a), v := rn md (decAdd (decMul r.a l.v) r.v) }

/-! ### The scan control block (Table 7-5) -/

structure Scb where
  g   : Nat
  s0  : Nat
  y0  : Nat
  cf  : Bool
  ce  : Int
  cv  : Nat
  bad : Bool
  deriving DecidableEq, Repr

def readScb (x : Bench) (k : Nat) : Scb :=
  let bs := trayBytes x (32 * k) 32
  let at' (o n : Nat) : Nat := leNat ((bs.drop o).take n)
  { g := at' 0 4, s0 := at' 4 4, y0 := at' 8 4, cf := at' 12 1 % 2 = 1, ce := toSigned 16 (at' 14 2), cv := at' 16 8,
    bad := decide (1 < at' 12 1) || at' 13 1 ≠ 0 || at' 24 8 ≠ 0 || decide (2 ^ 31 < at' 0 4) }

/-- The root of a range, in the layout of Table 7-5; G, S0 and Y0 are those of the instruction. -/
def putRoot (k : Nat) (c : Scb) (f : Bool) (ce : Int) (cv : Nat) (x : Bench) : Bench :=
  trayPutAll (32 * (k + 1))
    (leBytes 4 c.g ++ leBytes 4 c.s0 ++ leBytes 4 c.y0 ++ leBytes 2 (b2n f) ++ leBytes 2 (ofSigned 16 ce) ++ leBytes 8 cv
      ++ leBytes 8 0) x

/-! ### VRED -/

inductive RFn where
  | fxsum | max | min | argmax | argmin | exmax | and | or | xor | sum32
  deriving DecidableEq, Repr

def rfnOf (c : Nat) : RFn :=
  match c with
  | 0 => .fxsum | 1 => .max | 2 => .min | 3 => .argmax | 4 => .argmin | 5 => .exmax | 6 => .and | 7 => .or | 8 => .xor
  | _ => .sum32

def RFn.isArg (f : RFn) : Bool := f = .argmax || f = .argmin
def RFn.wantsMax (f : RFn) : Bool := f = .max || f = .argmax

/-- A value stream of format `fo` can hold what MAX or MIN selects from format `fi` (Table 5-4, R113). -/
def selFmtOk (fi fo : Nat) : Bool := (fmtElem fi && fo == fi) || (fmtFx fi && fmtFx fo)

/-- Formats of VRED (Table 5-4, R466). -/
def redFmtOk (f : RFn) (fi fo : Nat) : Bool :=
  match f with
  | .fxsum => fmtFx fi && fo == fi
  | .max | .min => selFmtOk fi fo
  | .argmax | .argmin => (fmtElem fi || fmtFx fi) && fo == fS32
  | .exmax => (fmtElem fi || fmtFx fi) && fo == fFxExp
  | .and | .or | .xor => fi == fRaw && fo == fRaw
  | .sum32 => fmtFloat fi && fo == fFp32

/-- `q` placed among positions in rising order of `key`. -/
def keyIns {α : Type} (key : α → Nat) (q : α) : List α → List α
  | [] => [q]
  | h :: t => if key q ≤ key h then q :: h :: t else h :: keyIns key q t

/-- A list in rising order of `key`, equal ones in their order. -/
def keySort {α : Type} (key : α → Nat) (l : List α) : List α := l.foldr (keyIns key) []

/-- Distance of logical index `i` from the first index `i0` of its stream: canonical order, and the ties of argmax and argmin,
go by it (R107). -/
def idxDist (i0 i : Nat) : Nat := (i + (2 ^ 48 - i0)) % 2 ^ 48

/-- The element that MAX or MIN selects among the elements of a group in logical order, with its stream position (R115): the
first NaN, else the best value, the first among equal ones. -/
def selBest (mx : Bool) (els : List (Nat × El)) : Option (Nat × El) :=
  match els.find? (fun e => e.2.dec.cls = .nan) with
  | some e => some e
  | none => els.foldl (fun best e => match best with
    | none => some e
    | some c => if (if mx then decBelow c.2.dec e.2.dec else decBelow e.2.dec c.2.dec) then some e else some c) none

/-- Groups of `g` stream positions. -/
def groupsOf {α : Type} (g : Nat) : Nat → List α → List (List α)
  | 0, _ => []
  | _ + 1, [] => []
  | n + 1, l => l.take g :: groupsOf g n (l.drop g)

/-- One value output: its encoding with its exponent, the events of the elements read for it (with their stream positions),
and its own events. -/
structure RedOut where
  bits : Nat
  ex   : Int
  els  : List ((Nat × El) × Nev)
  ev   : Nev
  deriving DecidableEq, Repr

/-- A selected value written in format `fo`, at exponent `e` when it is FX (R113). -/
def selOut (md : NumMode) (fi fo : Nat) (e : Int) (x : Nat × El) : RedOut :=
  if fmtFx fi then
    let a := fxAlign (fxN fo) e fi x.2
    let o := fxPlace (fxN fo) a.1
    { bits := o.1, ex := e, els := [(x, a.2)], ev := o.2 }
  else
    let o := convertDec md x.2.dec fo .rne 0
    { bits := o.1, ex := zeroE, els := [], ev := o.2 }

/-- The result of one group with at least one present element; `els` are its present elements in logical order with their stream
positions, `e` the exponent of its output block. The offset of an element is its place in that order. -/
def redGroup (md : NumMode) (f : RFn) (fi fo : Nat) (e : Int) (els : List (Nat × El)) : RedOut :=
  match f with
  | .fxsum =>
    let l := els.map fun x => (x, fxAlign (fxN fo) e fi x.2)
    let o := fxPlace (fxN fo) (l.foldl (fun t x => t + x.2.1) 0)
    { bits := o.1, ex := e, els := l.map fun x => (x.1, x.2.2), ev := o.2 }
  | .max | .min =>
    match selBest f.wantsMax els with
    | some x => selOut md fi fo e x
    | none => { bits := 0, ex := zeroE, els := [], ev := nevNone }
  | .argmax | .argmin =>
    let best := selBest f.wantsMax els
    { bits := (els.findIdx? fun x => some x.1 == best.map (·.1)).getD 0, ex := zeroE, els := [], ev := nevNone }
  | .exmax =>
    let bad (d : Dec) : Bool := d.cls = .inf || d.cls = .nan
    let m := els.foldl (fun a x => if x.2.dec.cls = .fin then max a (fxEx x.2.dec.sig x.2.dec.lsb) else a) zeroE
    { bits := if els.any (fun x => bad x.2.dec) then 0x7FFF else ofSigned 16 m, ex := zeroE,
      els := els.map fun x => (x, if bad x.2.dec then nevCause causeNonfinFx else nevNone), ev := nevNone }
  | .and => { bits := els.foldl (fun t x => t &&& x.2.bits) (2 ^ 32 - 1), ex := zeroE, els := [], ev := nevNone }
  | .or => { bits := els.foldl (fun t x => t ||| x.2.bits) 0, ex := zeroE, els := [], ev := nevNone }
  | .xor => { bits := els.foldl (fun t x => t ^^^ x.2.bits) 0, ex := zeroE, els := [], ev := nevNone }
  | .sum32 =>
    let r := canonReduce (cSum md) (els.map fun x => some x.2.dec)
    let o := convertDec md (r.getD { cls := .zero, neg := false }) fFp32 .rne 0
    { bits := o.1, ex := zeroE, els := [], ev := o.2 }

/-- Outputs of a VRED into descriptor `d`, output k at index IDX_BASE + k (R182), from its groups of present elements; a group
without one, whose result the spec does not state, takes a free value (log entry 21). -/
def redOuts (md : NumMode) (f : RFn) (fn fi : Nat) (d : SDesc) (gs : List (List (Nat × El))) : List (POut × RedOut) :=
  let ix (k : Nat) : Nat := (d.idx + k) % 2 ^ 48
  let blocks := if fmtFx fi then fxBlocks ((List.range gs.length).flatMap fun k =>
      (gs.getD k []).map fun x => (ix k, x.2.ex)) else []
  (List.range gs.length).map fun k =>
    let g := gs.getD k []
    let e := spGet zeroE (ix k / 256) blocks
    let r := if g = [] then
        { bits := (Config.emptyGroup fn d.fmt (ix k)).toNat % 2 ^ fmtWidth d.fmt, ex := e, els := [], ev := nevNone }
      else redGroup md f fi d.fmt e g
    ({ p := k, live := true, idx := ix k, bits := r.bits, ex := r.ex, ev := r.ev }, r)

/-- In0 of VRED or WITNESS, and n: its COUNT, or the positions of an entry or tap (section 7.7, R468). -/
def redIn (x : Bench) (t : Stream) (w : IWord) (qb : Nat) : PIn × Nat :=
  let d := readDesc x w.d.toNat qb
  let i := plIn x t d (kind01 (plSrc0 w)) d.count
  (i, if i.kind == .entry || i.kind == .tap then i.els.length else d.count)

/-- The slots that a VRED or WITNESS reads its input from. -/
def redSlots (i : PIn) (k : Nat) : List Nat := if i.kind == .entry || i.kind == .tap then [] else [k]

/-- In0 names a tap that no TTAP of the stream provides, or a RAW one: STREAM_KIND, its format not being judged (R109, R179). -/
def redTapBad (i : PIn) : Bool := i.kind == .tap && (i.gone || i.raw.isSome)

/-- The end of a VRED, scan or WITNESS. -/
def redEnd (b : Nat) (t : Stream) (w : IWord) (pc : Nat) (usedEntry tapRead : Bool) (s : State) : State :=
  plEnd b t pc w usedEntry tapRead (nextDraw b t pc w.opid (plNext w) false s)

def usesIn0 (_ : IWord) : Bool × Bool × Bool := (true, false, false)

/-- VRED writes the selected values too: ARGMAX or ARGMIN with VAL (Table 7-12). -/
def redVal (w : IWord) : Bool := (rfnOf (plFn w)).isArg && plFlag w 5

/-- What a VRED reads and writes: its input and n, Out, Val, its operation and group length, and the number of groups. -/
structure RSrc where
  i   : PIn
  n   : Nat
  out : SDesc
  val : SDesc
  scb : Scb
  g   : Nat
  no  : Nat

def vredSrc (b : Nat) (t : Stream) (w : IWord) (s : State) : RSrc :=
  let x := bench s b
  let k := w.d.toNat
  let i := redIn x t w (qbTray s b t w)
  let scb := readScb x w.imm.toNat
  let g := if scb.g = 0 then max i.2 1 else scb.g
  { i := i.1, n := i.2, out := readDesc x (k + 3) (qbTray s b t w), val := readDesc x (k + 1) (qbTray s b t w), scb := scb,
    g := g, no := (i.2 + g - 1) / g }

/-- The groups of a VRED's input: `g` stream positions to a group, the present elements of each in logical order (R114, R115,
R468; log entry 35). -/
def RSrc.groups (p : RSrc) : List (List (Nat × El)) :=
  (groupsOf p.g p.n ((List.range p.n).zip p.i.els)).map fun l =>
    keySort (fun x => idxDist (elAt p.i 0).idx x.2.idx) (l.filter (·.2.here))

/-- The results of a VRED, group by group, and, with VAL, the selected values. -/
def vredOuts (md : NumMode) (w : IWord) (p : RSrc) : List (POut × RedOut) :=
  redOuts md (rfnOf (plFn w)) (plFn w) p.i.fmt p.out p.groups
def vredVals (md : NumMode) (w : IWord) (p : RSrc) : List (POut × RedOut) :=
  if redVal w then redOuts md (if (rfnOf (plFn w)).wantsMax then .max else .min) (plFn w) p.i.fmt p.val p.groups else []

/-- A VRED writes its results, then the selected values, into the tray. -/
def vredPut (md : NumMode) (w : IWord) (p : RSrc) (x : Bench) : Bench :=
  putOut p.val true ((vredVals md w p).map (·.1)) (putOut p.out true ((vredOuts md w p).map (·.1)) x)

/-- Elements per cycle of a reduction (Table 5-2). -/
def redRate (w : IWord) (wide : Bool) : Nat := if rfnOf (plFn w) = .sum32 || wide then 64 else 128

/-- The events of a VRED's outputs, each with its cycle and lane (R77): an element's in the cycle of its beat, an output's 10
cycles after the last beat of its group (Table 7-2). -/
def redEvents (w : IWord) (p : RSrc) (wide : Bool) (l : List (POut × RedOut)) : List (Nat × OpEv) :=
  let at' (cyc q idx : Nat) (ev : Nev) : Nat × OpEv := (256 * cyc + laneOf wide q, planeEv w.opid wide q idx ev)
  let rate := redRate w wide
  (l.flatMap fun o => o.2.els.map fun e => at' (e.1.1 / rate) e.1.1 e.1.2.idx e.2) ++
    l.map fun o => at' ((min p.n (p.g * (o.1.p + 1)) - 1) / rate + 10) o.1.p o.1.idx o.1.ev

def spVred : ISpec where
  opc := 0x32
  map := plMap 0x20
  legal := plLegal [0, 1, 2, 3, 4, 5, 6, 7, 8, 9] usesIn0 false true
  res := some dtPlane
  shad := fun _ => true
  hold := fun b t w s =>
    let k := w.d.toNat
    let p := vredSrc b t w s
    plHold b t (p.i.kind == .entry)
      (redSlots p.i k ++ [k + 3, w.imm.toNat] ++ (if redVal w then [k + 1] else [])) (plRange p.i p.n)
      (let outs (d : SDesc) : List (Nat × Nat) :=
        (d.addr, elemBytes d.fmt d.count) :: scaleRanges d ((List.range p.no).map fun k => (d.idx + k) % 2 ^ 48)
       outs p.out ++ (if redVal w then outs p.val else [])) s
  rules := fun b t w s =>
    let p := vredSrc b t w s
    plInBad p.i p.n ++ plOutBad p.out p.no ++
      [(decide (slotEnd ≤ w.imm.toNat), xTrayRange),
       (p.i.raw.isSome, xStreamKind),
       (plOverlap [(0, p.i)] p.out p.n p.no, xStreamKind),
       (p.scb.bad || decide (2 ^ 31 < p.g) || p.out.count ≠ p.no ||
          (!redTapBad p.i && !redFmtOk (rfnOf (plFn w)) p.i.fmt p.out.fmt), xDesc)] ++
      (if redVal w then plOutBad p.val p.no ++
        [(plOverlap [(0, p.i)] p.val p.n p.no, xStreamKind),
         (p.val.count ≠ p.no || (!redTapBad p.i && !selFmtOk p.i.fmt p.val.fmt), xDesc)]
       else [])
  run := fun b t w pc mark s =>
    let k := w.d.toNat
    let p := vredSrc b t w s
    let md := numMode s
    let os := vredOuts md w p
    let vs := vredVals md w p
    let wide := wideAny [p.i.fmt, p.out.fmt]
    let flush := ((p.i.els.take p.n).filter (·.here)).map fun e => planeEv w.opid wide 0 e.idx (flushEv [e.dec])
    let evs := (frontBy (·.1) (·.2.ev.causes != []) (redEvents w p wide os ++ redEvents w p wide vs)).map (·.2)
    let s := trayUeReport b ((redSlots p.i k ++ [k + 3, w.imm.toNat] ++ (if redVal w then [k + 1] else [])).map slotRange ++
      plRange p.i p.n) s
    let wit := outWitness p.out.fmt (os.map (·.1)) + outWitness p.val.fmt (vs.map (·.1))
    let s := plWrite b w.opid mark p.out.fmt p.no wit (evs ++ flush) (vredPut md w p) s
    redEnd b t w pc (p.i.kind == .entry) (p.i.kind == .tap) s
def execVred (b : Nat) (t : Stream) (w : IWord) (s : State) : Out := .next (issue spVred b t w s)

/-! ### Scans -/

def scExcl (w : IWord) : Bool := plFlag w 0
def scRev (w : IWord) : Bool := plFlag w 1
def scSeg (w : IWord) : Bool := plFlag w 2
def scCin (w : IWord) : Bool := plFlag w 3
def scCout (w : IWord) : Bool := plFlag w 4

/-- The instruction covers part of a single group (R183). -/
def scPart (w : IWord) (c : Scb) : Bool := c.s0 ≠ 0 || scCin w || scCout w

/-- The smallest power of two at or above `m`, by doubling. -/
def pow2Above (m : Nat) : Nat → Nat → Nat
  | 0, p => p
  | n + 1, p => if m ≤ p then p else pow2Above m n (2 * p)

/-- A breach of R119 or R183. -/
def scRangeBad (w : IWord) (c : Scb) (n : Nat) : Bool :=
  scPart w c && (decide ((if c.g = 0 then n else c.g) < c.s0 + n)
    || c.s0 % (128 * pow2Above ((n + 127) / 128) 40 1) ≠ 0)

/-- Stream positions of the groups in scan order, along rising or falling logical index (R118). -/
def scanGroups (w : IWord) (c : Scb) (p : PSrc) : List (List Nat) :=
  let g := if scPart w c || c.g = 0 then max p.n 1 else c.g
  (groupsOf g p.n (List.range p.n)).map fun l =>
    let l := keySort (fun q => idxDist (elAt p.i0 0).idx (elAt p.i0 q).idx) l
    if scRev w then l.reverse else l

/-- The outputs of the present positions of a group, put back among its positions; nothing is written at an absent one
(R468). -/
def withAbsent (w : IWord) (p : PSrc) : List Nat → List POut → List POut
  | [], _ => []
  | q :: t, os =>
    if isLive w p q then
      match os with
      | o :: r => o :: withAbsent w p t r
      | [] => []
    else { p := q, live := false, idx := outIdx p q } :: withAbsent w p t os

/-- The segment flag of stream position `q` (R116). -/
def segFlag (w : IWord) (p : PSrc) (q : Nat) : Bool := scSeg w && (elAt p.i2 q).bits == 1

/-- The identity of MAX or MIN in a non-FX format (R116). -/
def selIdent (f : Nat) (mx : Bool) : Nat := if fmtHasInf f then encInf f mx else encMax f mx

/-- Outputs of one group of a scan whose elements are not FX: `enc` encodes a prefix, `ident` is the exclusive
identity. -/
def scanGroup (w : IWord) (p : PSrc) (c : SegV → SegV → SegV) (el : Nat → SegV) (carry : Option SegV)
    (enc : SegV → Nat × Nev) (ident : Nat) (qs : List Nat) : List POut :=
  let ls := qs.filter (isLive w p)
  withAbsent w p qs ((ls.zip (canonPrefix c carry (ls.map fun q => some (el q)))).map fun (q, pr) =>
    let o : Nat × Nev :=
      if scExcl w then
        (match pr.1 with
         | some v => if segFlag w p q then (ident, nevNone) else enc v
         | none => (ident, nevNone))
      else (match pr.2 with | some v => enc v | none => (ident, nevNone))
    { p := q, live := true, idx := outIdx p q, bits := o.1, ev := o.2 })

/-- What a stretch of an FX scan gathers: the elements of the running segment, newest first, whether the carry reaches
it, and the largest exponent of these. -/
structure FxRun where
  els : List El
  car : Bool
  ex  : Int
  deriving DecidableEq, Repr

/-- The runs before and after each position of a group. -/
def fxRuns (w : IWord) (p : PSrc) : FxRun → List Nat → List (Nat × FxRun × FxRun)
  | _, [] => []
  | r, q :: t =>
    if isLive w p q then
      let r0 := if segFlag w p q then { els := [], car := false, ex := zeroE } else r
      let e := elAt p.i0 q
      let r1 : FxRun := { els := e :: r0.els, car := r0.car, ex := max r0.ex e.ex }
      (q, r0, r1) :: fxRuns w p r1 t
    else (q, r, r) :: fxRuns w p r t

/-- Alignment events of each position, from the last to the first: one for each exponent that an output to which the
element contributes has; then the exponents met so far in the segment. -/
def fxAlignEvents (w : IWord) (p : PSrc) (n : Nat) : List (Nat × Int) → List (Nat × Nev) × List Int
  | [] => ([], [])
  | (q, e) :: t =>
    let r := fxAlignEvents w p n t
    if isLive w p q = false then ((q, nevNone) :: r.1, r.2)
    else
      let all := if r.2.contains e then r.2 else e :: r.2
      let mine := if scExcl w then r.2 else all
      let ev := mine.foldl (fun v e => v.join (fxAlign n e p.i0.fmt (elAt p.i0 q)).2) nevNone
      ((q, ev) :: r.1, if segFlag w p q then [] else all)

/-- The exact value of a run at exponent `e`, none when it is empty. -/
def fxRunValue (f : RFn) (fi n : Nat) (carry : El) (e : Int) (r : FxRun) : Option Int :=
  let vs := (r.els.reverse.map fun x => (fxAlign n e fi x).1)
  let vs := if r.car then (fxAlign n e (if n = 32 then 0x10 else if n = 48 then 0x11 else 0x12) carry).1 :: vs else vs
  match vs with
  | [] => none
  | h :: t => some (t.foldl (fun a v => match f with
    | .max => max a v
    | .min => min a v
    | _ => a + v) h)

/-- An FX carry or root as an element of Out's format. -/
def fxCarry (f : Nat) (c : Scb) : El :=
  let v := c.cv % 2 ^ fxN f
  { here := true, idx := 0, bits := v, ex := c.ce, dec := decodeEl f v c.ce }

/-- Outputs of an FX scan over all its groups, the exponents by output block (R113, R116). -/
def fxScan (w : IWord) (p : PSrc) (f : RFn) (c : Scb) (gs : List (List Nat)) : List POut :=
  let fo := p.out.fmt
  let n := fxN fo
  let carry := fxCarry fo c
  let r0 : FxRun := if scCin w then { els := [], car := true, ex := c.ce } else { els := [], car := false, ex := zeroE }
  let ident : Int := match f with
    | .max => fxSat n true
    | .min => fxSat n false
    | _ => 0
  let runs := gs.map (fxRuns w p r0)
  let pick (x : Nat × FxRun × FxRun) : FxRun := if scExcl w then x.2.1 else x.2.2
  let blocks := fxBlocks ((runs.flatMap id).filterMap fun x =>
    if isLive w p x.1 then some (outIdx p x.1, (pick x).ex) else none)
  let exOf (q : Nat) : Int := spGet zeroE (outIdx p q / 256) blocks
  runs.flatMap fun g =>
    let evs := (fxAlignEvents w p n (g.map fun x => (x.1, exOf x.1))).1
    (g.zip evs).map fun (x, ev) =>
      let e := exOf x.1
      let o := fxPlace n ((fxRunValue f p.i0.fmt n carry e (pick x)).getD ident)
      { p := x.1, live := isLive w p x.1, idx := outIdx p x.1, bits := o.1, ex := e, ev := ev.2.join o.2 }

/-- The root of an FX range: its last segment's value at the largest exponent of the elements it covers (log entry
22). -/
def fxRoot (w : IWord) (p : PSrc) (f : RFn) (gs : List (List Nat)) : Option (Bool × Int × Nat) :=
  let n := fxN p.out.fmt
  let qs := gs.flatMap id
  match (fxRuns w p { els := [], car := false, ex := zeroE } qs).getLast? with
  | none => none
  | some x =>
    (fxRunValue f p.i0.fmt n (elAt p.i0 p.n) x.2.2.ex x.2.2).map fun v =>
      (qs.any fun q => isLive w p q && segFlag w p q, x.2.2.ex, ofSigned 64 v)

/-- The root of a range over its present elements, in scan order (R119, R468). -/
def scanRoot (w : IWord) (p : PSrc) (c : SegV → SegV → SegV) (el : Nat → SegV) (gs : List (List Nat)) : Option SegV :=
  canonReduce c (((gs.flatMap id).filter (isLive w p)).map fun q => some (el q))

/-- Waits of a scan. -/
def scanHold (uses : IWord → Bool × Bool × Bool) (b : Nat) (t : Stream) (w : IWord) (s : State) :
    Option (Option Stall × State) :=
  let p := elemSrc uses b t w s
  plHold b t p.usesEntry (p.slots w.d.toNat ++ [w.imm.toNat]) (p.ins.flatMap fun i => plRange i.2 p.n)
    ((p.out.addr, elemBytes p.out.fmt p.n) :: p.outScales ++ (if scCout w then [slotRange (w.imm.toNat + 1)] else [])) s

/-- Rules that hold for both scans (R119, R170, R171, R183). -/
def scanBad (w : IWord) (p : PSrc) (c : Scb) : List (Bool × Nat) :=
  elemBad w p false ++
  [(decide (slotEnd ≤ w.imm.toNat + b2n (scCout w)), xTrayRange),
   (scSeg w && plSrc2 w != 2, xStreamKind),
   (c.bad, xDesc),
   (scRangeBad w c p.n, xScanRange)]

/-- What a scan gives: its output positions, and the root of its range when it has one. -/
structure ScanRes where
  os   : List POut
  root : Option (Bool × Int × Nat)

/-- A scan writes its outputs, and its root when COUT is set, into the tray (R117, R183). -/
def scanPut (w : IWord) (p : PSrc) (c : Scb) (r : ScanRes) (x : Bench) : Bench :=
  let x := putOut p.out true r.os x
  match r.root with
  | some r => if scCout w then putRoot w.imm.toNat c r.1 r.2.1 r.2.2 x else x
  | none => x

/-- An output placed among those of its beat, by rising lane. -/
def laneIns (wide : Bool) (o : POut) : List POut → List POut
  | [] => [o]
  | h :: t => if laneOf wide o.p ≤ laneOf wide h.p then o :: h :: t else h :: laneIns wide o t

/-- Outputs in the order in which R77 ranks their traps: beats of `rate` positions in scan order, lanes rising in a beat. -/
def beatOrder (rate : Nat) (wide : Bool) (os : List POut) : List POut :=
  (groupsOf rate os.length os).flatMap fun l => l.foldr (laneIns wide) []

/-- Elements per cycle of a scan (Table 5-2): 64 for VASCAN, for SUM32 and for FX48 or FX64 elements. -/
def scanRate (w : IWord) (p : PSrc) : Nat := if w.opc = 0x34 || rfnOf (plFn w) = .sum32 || p.wide then 64 else 128

/-- A scan whose result `res` gives from its sources and control block: its outputs and root, the draw counter, sources and
completion. -/
def scanRun (uses : IWord → Bool × Bool × Bool) (res : NumMode → IWord → PSrc → Scb → ScanRes) (b : Nat) (t : Stream)
    (w : IWord) (pc : Nat) (mark : Option ShMark) (s : State) : State :=
  let p := elemSrc uses b t w s
  let c := readScb (bench s b) w.imm.toNat
  let r := res (numMode s) w p c
  let s := trayUeReport b
    ((p.slots w.d.toNat ++ [w.imm.toNat]).map slotRange ++ p.ins.flatMap fun i => plRange i.2 p.n) s
  let s := plWrite b w.opid mark p.out.fmt p.n (outWitness p.out.fmt r.os)
    (outEvents w.opid p.wide (beatOrder (scanRate w p) p.wide r.os)) (scanPut w p c r) s
  redEnd b t w pc p.usesEntry p.tapRead s

def vscanUses (w : IWord) : Bool × Bool × Bool := (true, false, scSeg w)

/-- Formats of VSCAN (R116, R117). -/
def scanFmtOk (f : RFn) (fi fo : Nat) : Bool :=
  match f with
  | .fxsum => fmtFx fi && fo == fi
  | .sum32 => fmtFloat fi && fmtElem fo
  | _ => selFmtOk fi fo

/-- The result of a VSCAN (R116 to R119). -/
def vscanRes (md : NumMode) (w : IWord) (p : PSrc) (c : Scb) : ScanRes :=
  let f := rfnOf (plFn w)
  let fi := p.i0.fmt
  let fo := p.out.fmt
  let gs := scanGroups w c p
  if fmtFx fi then { os := fxScan w p f c gs, root := fxRoot w p f gs }
  else
    let comb := segC (if f = .sum32 then cSum md else if f = .max then decMax else decMin)
    let zero : Dec := { cls := .zero, neg := false }
    let el (q : Nat) : SegV := { f := segFlag w p q, a := zero, v := (elAt p.i0 q).dec }
    let fc := if f = .sum32 then fFp32 else fi
    let carry : Option SegV :=
      if scCin w then some { f := scSeg w && c.cf, a := zero, v := decode fc (c.cv % 2 ^ fmtWidth fc) } else none
    let enc (v : SegV) : Nat × Nev := convertDec md (if f = .sum32 then rn md v.v else v.v) fo .rne 0
    let ident := if f = .sum32 then encZero fo false else selIdent fi (f = .max)
    { os := (gs.flatMap (scanGroup w p comb el carry enc ident)).map fun o =>
        { o with ev := opEv [(elAt p.i0 o.p).dec] o.ev },
      root := (scanRoot w p comb el gs).map fun v => (v.f, (0 : Int), (convertDec md v.v fc .rne 0).1) }

/-- VSCAN (R116 to R119, R183). -/
def spVscan : ISpec where
  opc := 0x33
  map := plMap 0x1F
  legal := plLegal [0, 1, 2, 9] vscanUses false true
  res := some dtPlane
  shad := fun _ => true
  hold := scanHold vscanUses
  rules := fun b t w s =>
    let p := elemSrc vscanUses b t w s
    scanBad w p (readScb (bench s b) w.imm.toNat) ++
      [(!p.tapBad false && !scanFmtOk (rfnOf (plFn w)) p.i0.fmt p.out.fmt, xDesc)]
  run := scanRun vscanUses vscanRes
def execVscan (b : Nat) (t : Stream) (w : IWord) (s : State) : Out := .next (issue spVscan b t w s)

def vascanUses (w : IWord) : Bool × Bool × Bool := (true, true, scSeg w)

/-- The result of a VASCAN (R116 to R119). -/
def vascanRes (md : NumMode) (w : IWord) (p : PSrc) (c : Scb) : ScanRes :=
  let gs := scanGroups w c p
  let el (q : Nat) : SegV :=
    { f := segFlag w p q, a := rn md (elAt p.i0 q).dec, v := rn md (elAt p.i1 q).dec }
  let carry : Option SegV :=
    if scCin w then some { f := scSeg w && c.cf, a := decode fFp32 (c.cv % 2 ^ 32), v := decode fFp32 (c.cv / 2 ^ 32) }
    else none
  let y0 := decode fFp32 c.y0
  let enc (v : SegV) : Nat × Nev :=
    convertDec md (if v.f then v.v else rn md (decAdd (decMul v.a y0) v.v)) p.out.fmt .rne 0
  { os := (gs.flatMap (scanGroup w p (cAff md) el carry enc 0)).map fun o =>
      { o with ev := opEv [(elAt p.i0 o.p).dec, (elAt p.i1 o.p).dec] o.ev },
    root := (scanRoot w p (cAff md) el gs).map fun v => (v.f, (0 : Int), (convertDec md v.a fFp32 .rne 0).1 + 2 ^ 32 * (convertDec md v.v fFp32 .rne 0).1) }

/-- VASCAN (R116 to R119, R183). -/
def spVascan : ISpec where
  opc := 0x34
  map := plMap 0x1E
  legal := plLegal [0] vascanUses false true
  res := some dtPlane
  shad := fun _ => true
  hold := scanHold vascanUses
  rules := fun b t w s =>
    let p := elemSrc vascanUses b t w s
    scanBad w p (readScb (bench s b) w.imm.toNat) ++
      [(!p.tapBad false && !(fmtElem p.i0.fmt && fmtElem p.i1.fmt && fmtElem p.out.fmt), xDesc)]
  run := scanRun vascanUses vascanRes
def execVascan (b : Nat) (t : Stream) (w : IWord) (s : State) : Out := .next (issue spVascan b t w s)

/-! ### WITNESS (R184) -/

/-- WITNESS: a record of kind 2 of In0, in every witness mode while RING_EN is 1; ILLEGAL on a bench in TEST (R104). -/
def spWitness : ISpec where
  opc := 0x3A
  map := plMap 0
  legal := fun b w s => !inTest s b && plLegal [0] usesIn0 false false b w s
  res := some dtPlane
  hold := fun b t w s =>
    let i := redIn (bench s b) t w (qbTray s b t w)
    plHold b t (i.1.kind == .entry) (redSlots i.1 w.d.toNat) (plRange i.1 i.2) [] s
  rules := fun b t w s =>
    let i := redIn (bench s b) t w (qbTray s b t w)
    plInBad i.1 i.2 ++ [(i.1.raw.isSome, xStreamKind), (i.1.fmt == fPred, xDesc)]
  run := fun b t w pc _ s =>
    let i := redIn (bench s b) t w (qbTray s b t w)
    let s := trayUeReport b ((redSlots i.1 w.d.toNat).map slotRange ++ plRange i.1 i.2) s
    let s := witRecord b 2 i.1.fmt w.opid i.2 (streamWitness i.1.fmt (i.1.els.take i.2)) s
    redEnd b t w pc (i.1.kind == .entry) (i.1.kind == .tap) s
def execWitness (b : Nat) (t : Stream) (w : IWord) (s : State) : Out := .next (issue spWitness b t w s)

end Sys2Proof.Machine
end

