-- ==== Sys2Proof/Machine/Move.lean ====
section
/-! DEFINITION. Movement and checking instructions (sections 7.8 and 7.9): DMAL, DMAS, DMAX, RSEND, RREAD, GLUE, RCLAMP,
SHADOW, CHKCMP, and the events that complete them. -/

namespace Sys2Proof.Machine

/-- Field map of the DMA-class instructions that name a transfer descriptor. -/
def dmaMap (aux : Nat) : FieldMap :=
  { cq := 0xFF, g := true, ce := true, ix := true, bc := true, aux := aux, d := true, opid := true }

/-- The rules of Table 7-4 and R172 that every transfer shares: slots, reserved fields, format, row fields, alignment, and
the extent of the tray side. -/
def xferBad (k : Nat) (d : TDesc) : List (Bool × Nat) :=
  let sc := fmtBlock d.fmt ≠ 0
  [(decide (slotEnd ≤ k + 1), xTrayRange),
   (d.maddr % 32 ≠ 0 || d.taddr % 32 ≠ 0 || (sc && (d.saddr % 32 ≠ 0 || d.msaddr % 32 ≠ 0)), xTrayRange),
   (decide (trayEnd < d.taddr + (d.rows - 1) * d.tstride + d.rowLen), xTrayRange),
   (sc && decide (trayEnd < d.saddr + xferScale d), xTrayRange),
   (d.resv || !fmtKnown d.fmt || d.rowLen % 32 ≠ 0 || decide (d.rowLen < 32) || decide (2 ^ 20 < d.rowLen)
     || decide (d.rows < 1) || decide (2 ^ 20 < d.rows) || d.mstride % 32 ≠ 0 || d.tstride % 32 ≠ 0, xDesc)]

/-- A local memory side that leaves the open space (R172, R212). -/
def memSideBad (s : State) (d : TDesc) : Bool :=
  decide (d.maddr < carveEnd) || decide (memEnd s < d.maddr + (d.rows - 1) * d.mstride + d.rowLen)
    || (fmtBlock d.fmt ≠ 0 && (decide (d.msaddr < carveEnd) || decide (memEnd s < d.msaddr + xferScale d)))

/-- First and last byte of the tray range of a transfer (R187). -/
def xferSpan (d : TDesc) : Nat × Nat := (d.taddr, d.taddr + (d.rows - 1) * d.tstride + d.rowLen - 1)

/-- The tray range of a transfer as address and length. -/
def xferRange (d : TDesc) : Nat × Nat := (d.taddr, (d.rows - 1) * d.tstride + d.rowLen)

/-- The tray bytes that the array and plane instructions in progress read (R153): drains, HADA PRODs until their last entry is
visible, and taps. -/
def readsNow (x : Bench) : List (Nat × Nat) :=
  (match x.drain with | some d => d.reads | none => []) ++ x.reading.flatMap (·.reads)
    ++ (match x.tap with | some p => p.reads | none => [])

/-- Two byte ranges share a byte. -/
def rangesMeet (p q : Nat × Nat) : Bool := decide (0 < p.2 ∧ 0 < q.2 ∧ p.1 < q.1 + q.2 ∧ q.1 < p.1 + p.2)

/-- Waits of a DMA-class instruction: a free ticket (R187), descriptors and source `src` under pending writes (R153, R170), and a
destination `dst` that an instruction in progress reads (R153). -/
def dmaHold (b : Nat) (slots src dst : List (Nat × Nat)) (peer : Option (Nat × List (Nat × Nat))) (s : State) :
    Option (Option Stall × State) :=
  let x := bench s b
  if (freeTicket x).isNone then some (some .ticket, satAdd (Rg.BENCH_TKT_WAIT b) 1 s)
  else if sbHit x (slots ++ src) || (match peer with | some p => sbHit (bench s p.1) p.2 | none => false)
      || dst.any (fun p => (readsNow x).any (rangesMeet p)) then
    some (some .tray, satAdd (Rg.BENCH_ILK_TRAY b) 1 s)
  else none

/-- The ticket that an instruction takes at issue (R187, R226): a local transfer has its granule operations outstanding, a
CHKCMP or a remote operation the one report that it awaits. -/
def takeTicket (b : Nat) (t : Stream) (w : IWord) (pc : Nat) (op : TktOp) (td : Option TDesc) (sb : Option (Nat × Nat))
    (status : TktStatus) (flow : Option Nat) (s : State) : State × Ticket :=
  let k : Ticket :=
    { n := (freeTicket (bench s b)).getD 0, stream := t, pc := pc, opid := w.opid, op := op, bc := w.bc.toNat,
      cc := ccOf { ce := true } t pc w, td := td, sb := sb, status := status, flow := flow, tag := w.aux.toNat % 256,
      left := match op, td with
        | .dmal, some d | .dmas, some d | .dmax, some d => (xferPieces d).length
        | _, _ => 1 }
  (modBench b (fun x => { x with tickets := x.tickets ++ [k] }) s, k)

/-- Descriptor slots of a transfer. -/
def dmaSlots (w : IWord) : List (Nat × Nat) := [slotRange w.d.toNat, slotRange (w.d.toNat + 1)]

/-- The transfer descriptor of a word. -/
def xferDesc (s : State) (b : Nat) (t : Stream) (w : IWord) : TDesc := readTDesc (bench s b) w.d.toNat (qbMem s b t w)

/-- The tray ranges of a transfer: its rows, and its scales or exponents. -/
def trayDst (d : TDesc) : List (Nat × Nat) := [xferRange d, (d.saddr, xferScale d)]

/-- DMAL (R185): takes a ticket and a scoreboard entry; its data moves as DMA_LAST_BYTE says. -/
def spDmal : ISpec where
  opc := 0x40
  map := dmaMap 0
  legal := testClampOk
  res := some dtDma
  hold := fun b t w s => dmaHold b (dmaSlots w) [] (trayDst (xferDesc s b t w)) none s
  rules := fun b t w s => xferBad w.d.toNat (xferDesc s b t w) ++ [(memSideBad s (xferDesc s b t w), xMemRange)]
  run := fun b t w pc _ s =>
    let d := xferDesc s b t w
    (takeTicket b t w pc .dmal (some d) (some (xferSpan d)) .ok none (trayUeReport b (dmaSlots w) s)).1
def execDmal (b : Nat) (t : Stream) (w : IWord) (s : State) : Out := .next (issue spDmal b t w s)

/-- DMAS (R185, R104): takes a ticket; its data moves as TICKET_COMPLETE says. -/
def spDmas : ISpec where
  opc := 0x41
  map := dmaMap 0
  legal := fun b w s => !inTest s b && testClampOk b w s
  res := some dtDma
  hold := fun b t w s =>
    let d := xferDesc s b t w
    dmaHold b (dmaSlots w) (trayDst d) [] none s
  rules := fun b t w s => xferBad w.d.toNat (xferDesc s b t w) ++ [(memSideBad s (xferDesc s b t w), xMemRange)]
  run := fun b t w pc _ s =>
    let d := xferDesc s b t w
    (takeTicket b t w pc .dmas (some d) none .ok none (trayUeReport b (dmaSlots w) s)).1
def execDmas (b : Nat) (t : Stream) (w : IWord) (s : State) : Out := .next (issue spDmas b t w s)

/-- The source ranges of a DMAX on its peer's tray. -/
def peerRanges (d : TDesc) : List (Nat × Nat) :=
  [(d.maddr, (d.rows - 1) * d.mstride + d.rowLen), (d.msaddr, xferScale d)]

/-- DMAX (R185, R104, R193): from the tray of the logical bench PEER. -/
def spDmax : ISpec where
  opc := 0x42
  map := dmaMap 0
  legal := fun b w s => !inTest s b && testClampOk b w s
  res := some dtDma
  hold := fun b t w s =>
    let d := xferDesc s b t w
    dmaHold b (dmaSlots w) [] (trayDst d) ((physOf s d.peer).map fun p => (p, peerRanges d)) s
  rules := fun b t w s =>
    let d := xferDesc s b t w
    let raw := readTDesc (bench s b) w.d.toNat 0
    xferBad w.d.toNat d ++
      [(decide (trayEnd < d.maddr + (d.rows - 1) * d.mstride + d.rowLen)
          || (fmtBlock d.fmt ≠ 0 && decide (trayEnd < d.msaddr + xferScale d)), xTrayRange),
       (decide (2 ^ 21 ≤ raw.maddr) || physOf s d.peer == some b || (physOf s d.peer).isNone, xDesc)]
  run := fun b t w pc _ s =>
    let d := xferDesc s b t w
    (takeTicket b t w pc .dmax (some d) (some (xferSpan d)) .ok none (trayUeReport b (dmaSlots w) s)).1
def execDmax (b : Nat) (t : Stream) (w : IWord) (s : State) : Out := .next (issue spDmax b t w s)

/-! ### Remote operations (R185, R293, R294, R304, R305) -/

/-- A flow that a word names exists (Table 7-13), and the bench may use it (R104). -/
def flowLegal (b : Nat) (w : IWord) (s : State) : Bool :=
  !inTest s b && testClampOk b w s && decide (w.aux.toNat % 4096 < 3072)
def flowOf (w : IWord) : Nat := w.aux.toNat % 4096

/-- The operation that a transfer sends. -/
def xferOp (s : State) (c : Nat) (k : OpKind) (w : IWord) (no : Nat) (d : TDesc) : OpPay :=
  { opk := k, fmt := d.fmt, tkt := no, opid := w.opid.toNat, addr := (ctxBase s c + d.maddr) % 2 ^ 48, rowLen := d.rowLen,
    rows := d.rows, mstride := d.mstride, saddr := if fmtBlock d.fmt = 0 then 0 else (ctxBase s c + d.msaddr) % 2 ^ 48,
    slen := xferScale d }

/-- An issued remote operation: sent through its context, or complete at once when the context cannot send (R304). -/
def sendOrEnd (b c : Nat) (k : Ticket) (p : OpPay) (data scales : List Byte) (read : Option TDesc) (s : State) : State :=
  match ctxDead s c with
  | some st => endTicket b k st (remoteErr c p.addr p.rows p.mstride st s)
  | none => sendOp c p (tktNo s b k.n) data scales read s

/-- RSEND and GLUE read their rows and array from the tray at issue; their ticket's status is the one reported (R299). -/
def sendXfer (b : Nat) (t : Stream) (w : IWord) (pc : Nat) (op : TktOp) (k : OpKind) (d : TDesc) (s : State) : State :=
  let x := bench s b
  let s := trayUeReport b (dmaSlots w ++ trayDst d) s
  let data := xferData x d
  let scales := xferScaleData x d
  let s := xferRecord b w.opid d data scales s
  let c := flowOf w
  let r := takeTicket b t w pc op (some d) none .ok (some c) s
  sendOrEnd b c r.2 (xferOp s c k w (tktNo s b r.2.n) d) data scales none r.1

def spRsend : ISpec where
  opc := 0x43
  map := dmaMap 0xFFF
  legal := flowLegal
  res := some dtDma
  hold := fun b t w s =>
    let d := xferDesc s b t w
    dmaHold b (dmaSlots w) (trayDst d) [] none s
  rules := fun b t w s => xferBad w.d.toNat (xferDesc s b t w)
  run := fun b t w pc _ s => sendXfer b t w pc .rsend .write (xferDesc s b t w) s
def execRsend (b : Nat) (t : Stream) (w : IWord) (s : State) : Out := .next (issue spRsend b t w s)

/-- RREAD: DESC on a multicast context (R305). -/
def spRread : ISpec where
  opc := 0x44
  map := dmaMap 0xFFF
  legal := flowLegal
  res := some dtDma
  hold := fun b t w s => dmaHold b (dmaSlots w) [] (trayDst (xferDesc s b t w)) none s
  rules := fun b t w s => xferBad w.d.toNat (xferDesc s b t w) ++ [(ctxMc s (flowOf w), xDesc)]
  run := fun b t w pc _ s =>
    let d := xferDesc s b t w
    let c := flowOf w
    let s := trayUeReport b (dmaSlots w) s
    let r := takeTicket b t w pc .rread (some d) (some (xferSpan d)) .ok (some c) s
    sendOrEnd b c r.2 (xferOp s c .read w (tktNo s b r.2.n) d) [] [] (some d) r.1
def execRread (b : Nat) (t : Stream) (w : IWord) (s : State) : Out := .next (issue spRread b t w s)

/-- GLUE: FX formats alone, rows of whole triples in FX48 (R294), DESC on a multicast context (R305). -/
def spGlue : ISpec where
  opc := 0x45
  map := dmaMap 0xFFF
  legal := flowLegal
  res := some dtDma
  hold := fun b t w s =>
    let d := xferDesc s b t w
    dmaHold b (dmaSlots w) (trayDst d) [] none s
  rules := fun b t w s =>
    let d := xferDesc s b t w
    xferBad w.d.toNat d ++ [(!fmtFx d.fmt || (d.fmt == 0x11 && d.rowLen % 96 ≠ 0) || ctxMc s (flowOf w), xDesc)]
  run := fun b t w pc _ s => sendXfer b t w pc .glue .glue (xferDesc s b t w) s
def execGlue (b : Nat) (t : Stream) (w : IWord) (s : State) : Out := .next (issue spGlue b t w s)

/-- RCLAMP (R186): a remote clamp add. -/
def spRclamp : ISpec where
  opc := 0x46
  map := { cq := 0xFF, g := true, ce := true, bc := true, aux := 0xFFF, opid := true }
  legal := fun b w s => flowLegal b w s && !(w.opid.getLsbD 23 && bits w.opid 31 30 != 0)
  res := some dtDma
  hold := fun b _ _ s => dmaHold b [] [] [] none s
  run := fun b t w pc _ s =>
    let c := flowOf w
    let r := takeTicket b t w pc .rclamp none none .ok (some c) s
    sendOrEnd b c r.2
      { opk := .clamp, tkt := tktNo s b r.2.n, opid := w.opid.toNat, clamp := w.opid.toNat } [] [] none r.1
def execRclamp (b : Nat) (t : Stream) (w : IWord) (s : State) : Out := .next (issue spRclamp b t w s)

/-! ### Completion of transfers -/

/-- The granule operations of a ticket that move data: into the tray for DMAL and DMAX. -/
def movePiece (b : Nat) (k : Ticket) (s : State) (p : Nat × Nat × Nat) : State :=
  match k.op, k.td with
  | .dmal, some _ => loadPiece b s p
  | .dmas, some _ => storePiece b k.stream s p
  | .dmax, some d =>
    match physOf s d.peer with
    | some q =>
      let y := bench s q
      let bad := (List.range p.2.2).filter fun i => y.trayBad.contains ((p.1 + i) / 4)
      trayUeReport q [(p.1, p.2.2)] (modBench b (fun x =>
        bad.foldl (fun x i => traySpoil (p.2.1 + i) x) (trayPutAll p.2.1 (trayBytes y p.1 p.2.2) x)) s)
    | none => s
  | _, _ => s

/-- The status that a ticket's granule operations give it. -/
def moveStatus (b : Nat) (k : Ticket) (ps : List (Nat × Nat × Nat)) (s : State) : TktStatus :=
  match k.op, k.td with
  | .dmal, some _ => loadStatus s ps
  | .dmas, some _ => storeStatus s b k.stream ps
  | .dmax, some d =>
    match physOf s d.peer with
    | some q => if ps.any fun p => rangeAny p.1 p.2.2 fun a => (bench s q).trayBad.contains (a / 4) then .ue else .ok
    | none => .ok
  | _, _ => .ok

/-- The granule operations `ps` of a ticket are carried out, with the record of a tensor-writing transfer when all of them
are. -/
def moveData (b : Nat) (k : Ticket) (ps : List (Nat × Nat × Nat)) (s : State) : State × TktStatus :=
  match k.td with
  | none => (s, .ok)
  | some d =>
    let st := moveStatus b k ps s
    let src := if k.op = .dmas then trayUeReport b (ps.map fun p => (p.2.1, p.2.2)) s else s
    let s1 := if k.op = .dmas then
        commitWitness b k.stream k.opid d (ps.filter fun p => storeOk s k.stream p.1 && s.chip != .rest) (xferData (bench s b) d)
          (xferScaleData (bench s b) d) src
      else src
    let s2 := ps.foldl (movePiece b k) s1
    (xferRecord b k.opid d (xferData (bench s2 b) d) (xferScaleData (bench s2 b) d) s2, st)

/-- Words that arrive with a parity error: at the tray for a load, at memory for a store (R217). Each is named by the JMC
that counts it and its address. -/
def parityWords (b : Nat) (toTray : Bool) (par : List (Nat × Nat)) (s : State) : State :=
  par.foldl (fun s p =>
    let s := if toTray then modBench b (traySpoil p.2) s else memSpoil p.2 s
    parityAt (p.1 % 8) s) s

/-- DMA_LAST_BYTE (R153): the range of a DMAL or DMAX has been written into the tray, its scoreboard entry clears, and the
ticket waits for its completion. -/
def dmaLastByte (b n : Nat) (par : List (Nat × Nat)) (s : State) : State :=
  match ticketOf (bench s b) n with
  | some k =>
    if k.sb.isNone ∨ (k.op ≠ .dmal ∧ k.op ≠ .dmax) then s
    else
      let r := moveData b k ((k.td.map xferPieces).getD []) s
      let s := parityWords b true par r.1
      modTicket b n (fun k => { k with
        sb := none, left := 0, status := (k.status.worse r.2).worse (if par = [] then .ok else .parity) }) s
  | none => s
def execDmaLastByte (b n : Nat) (par : List (Nat × Nat)) (s : State) : Out := .next (dmaLastByte b n par s)

/-- TICKET_COMPLETE (R226): every granule operation of a local ticket is acknowledged. A DMAS has then stored its data; a
DMAL or DMAX completes after its last byte. -/
def ticketComplete (b n : Nat) (par : List (Nat × Nat)) (s : State) : State :=
  match ticketOf (bench s b) n with
  | some k =>
    if (k.op ≠ .dmas ∧ k.left ≠ 0) ∨ k.flow.isSome ∨ k.op = .chkcmp then s
    else if k.op = .dmas then
      let r := moveData b k ((k.td.map xferPieces).getD []) s
      let s := parityWords b false par r.1
      endTicket b k ((k.status.worse r.2).worse (if par = [] then .ok else .parity)) s
    else endTicket b k k.status s
  | none => s
def execTicketComplete (b n : Nat) (par : List (Nat × Nat)) (s : State) : Out := .next (ticketComplete b n par s)

/-- A ticket is ended early, by its own bound or by a hold's (R158, R227): the granule operations that `begun` numbers
finish, those of a store reading the tray as any does (R216), the others are discarded, and nothing lands after the completion. -/
def cutTicket (b : Nat) (k : Ticket) (begun : List Nat) (st : TktStatus) (s : State) : State :=
  let all := (k.td.map xferPieces).getD []
  let moves := (k.op = .dmas) || ((k.op = .dmal || k.op = .dmax) && k.sb.isSome)
  let ps := if moves then (List.range all.length).filterMap fun i => if begun.contains i then all[i]? else none else []
  let s := ps.foldl (movePiece b k) (match k.td with
    | some d => if k.op = .dmas then
        commitWitness b k.stream k.opid d (ps.filter fun p => storeOk s k.stream p.1 && s.chip != .rest) (xferData (bench s b) d)
          (xferScaleData (bench s b) d) (trayUeReport b (ps.map fun p => (p.2.1, p.2.2)) s) else s
    | none => s)
  let s := match k.flow with
    | some c => modFlow c (fun x => { x with
        ops := x.ops.filter (·.tkt ≠ tktNo s b k.n), txq := x.txq.filter (·.tkt ≠ some (tktNo s b k.n)) }) s
    | none => s
  endTicket b k st s

/-- TICKET_TIMEOUT (R227): the bound of a local ticket, a CHKCMP's among them (R226), expires. A DMAX and a CHKCMP reach no JMC;
their event is JMC 0's (DESIGN CHOICE, log entry 73). -/
def ticketTimeout (b n : Nat) (begun : List Nat) (s : State) : State :=
  match ticketOf (bench s b) n with
  | some k =>
    if k.flow.isSome then s
    else
      let j := match k.td with
        | some d => if k.op = .dmax then 0 else jmcAt s d.maddr
        | none => 0
      raiseEv (Pg.JMC j) 0x20A 0 0 (cutTicket b k begun .timeout s)
  | none => s
def execTicketTimeout (b n : Nat) (begun : List Nat) (s : State) : Out := .next (ticketTimeout b n begun s)

/-! ### Shadow execution (R132, R189, R190) -/

/-- SHADOW (R189): marks the next instruction of its stream. Its misuse raises ILLEGAL when it is known: here for a partner
that is the bench itself and for a tag still valid, whatever the role. -/
def spShadow : ISpec where
  opc := 0x50
  map := { mod := 1, aux := 0x7FFF }
  legal := fun b w s =>
    let tag := w.aux.toNat % 256
    let partner := w.aux.toNat / 256
    !inTest s b && physOf s partner != some b && (physOf s partner).isSome &&
      (spFind tag (bench s b).own).isNone
  run := fun b t w _ _ s =>
    let m : ShMark := { copy := w.mod.getLsbD 0, tag := w.aux.toNat % 256, partner := w.aux.toNat / 256 }
    modStr b t (fun x => { x with mark := some m }) s
def execShadow (b : Nat) (t : Stream) (w : IWord) (s : State) : Out := .next (issue spShadow b t w s)

/-- CHKCMP (R190, R187): takes a ticket and waits for both witnesses. -/
def spChkcmp : ISpec where
  opc := 0x51
  map := { cq := 0xFF, g := true, ce := true, bc := true, aux := 0xFF }
  legal := fun b w s =>
    !inTest s b && testClampOk b w s && (spFind (w.aux.toNat % 256) (bench s b).own).isSome
  res := some dtDma
  hold := fun b _ _ s => dmaHold b [] [] [] none s
  run := fun b t w pc _ s => (takeTicket b t w pc .chkcmp none none .ok none s).1
def execChkcmp (b : Nat) (t : Stream) (w : IWord) (s : State) : Out := .next (issue spChkcmp b t w s)

/-- The witnesses of a tag differ (R132): the event carries the op ID of the slot, and its word 5 the CHKCMP's program counter
(R173); the trap carries the CHKCMP's own OPID field (R174), which its field map leaves zero. -/
def shadowMiss (b : Nat) (k : Ticket) (o : ShSlot) (p q : DWord) (s : State) : State :=
  let s := satAdd (Rg.PLANE_SHD_COUNT b) 1 s
  let s := if bit (rg s (Rg.PLANE_SHD_STAT b)) 31 then s
    else
      let s := wr (Rg.PLANE_SHD_STAT b) (word (0x80000000 + k.tag * 256 + o.partner)) (wr (Rg.PLANE_SHD_OP b) o.opid s)
      let s := wr64 (Rg.PLANE_SHD_WITP_LO b) p (wr64 (Rg.PLANE_SHD_WITS_LO b) q s)
      raiseEv (Pg.PLANE b) 0x520 o.opid.toNat k.pc s
  voidBit 5 (execTrap b k.stream k.pc k.opid xShadowMm s)

/-- SHADOW_COMPARE (R132, R190): once both witnesses of the tag are present, the oldest CHKCMP of the tag compares them, and
both slots become invalid. -/
def shadowCompare (b tag : Nat) (s : State) : State :=
  let x := bench s b
  match x.tickets.find? (fun k => k.op = .chkcmp ∧ k.tag = tag), spFind tag x.own with
  | some k, some o =>
    match o.wit, spFind tag x.theirs with
    | some p, some q =>
      let s := if p = q then s else shadowMiss b k o p q s
      let s := modBench b (fun x => { x with own := spDel tag x.own, theirs := spDel tag x.theirs }) s
      endTicket b k .ok s
    | _, _ => s
  | _, _ => s
def execShadowCompare (b tag : Nat) (s : State) : Out := .next (shadowCompare b tag s)

end Sys2Proof.Machine
end

