-- ==== Sys2Proof/Machine/Freeze.lean ====
section
/-! DEFINITION. The bench records of a freeze image (R155, R156, Table 6-5): their bytes, and a bench read from them. Where Table
6-5 gives an area and no layout in it, the layout is the model's own (DESIGN CHOICE, log entry 25). -/

namespace Sys2Proof.Machine

/-- Bytes cut or filled with zeros to `n`. -/
def padBytes (n : Nat) (l : List Byte) : List Byte := l.take n ++ List.replicate (n - l.length) 0

/-- The `n` bytes at offset `o`, as a value. -/
def fieldAt (bs : List Byte) (o n : Nat) : Nat := leNat ((bs.drop o).take n)

def bitAt (bs : List Byte) (o k : Nat) : Bool := fieldAt bs o 1 / 2 ^ k % 2 == 1

/-- Bits as one byte, the first lowest. -/
def flagByte (l : List Bool) : List Byte := leBytes 1 (l.foldr (fun b n => b2n b + 2 * n) 0)

/-! ### Streams, clamps, queues, contexts -/

/-- A stream: state, program counter, not-before remainder (the model keeps no cycles), QB and loop stack. -/
def strRecord (x : StreamSt) : List Byte :=
  padBytes 0x100 (leBytes 1 (strCode x.state) ++ leBytes 8 x.pc ++ leBytes 4 0 ++ leBytes 8 x.qb.toNat
    ++ leBytes 1 x.loops.length ++ x.loops.flatMap fun l => leBytes 8 l.start ++ leBytes 4 l.cnt ++ leBytes 2 l.len)

def strState (c : Nat) : StrState :=
  match c with
  | 1 => .armed | 2 => .run | 3 => .wait | 4 => .held | 5 => .done | 6 => .fault | _ => .stopped

/-- The grain context of a stream (R126). -/
def grainRecord (x : StreamSt) : List Byte :=
  leBytes 8 x.seed.toNat ++ leBytes 4 x.strv.toNat ++ leBytes 2 x.cnt.toNat ++ flagByte [x.keyOk] ++ leBytes 1 0

/-- A stream from its 256 bytes and the 16 of its grain context. -/
def strLoad (bs gr : List Byte) : StreamSt :=
  { state := strState (fieldAt bs 0 1), pc := fieldAt bs 1 8, qb := BitVec.ofNat 64 (fieldAt bs 13 8),
    loops := (List.range (fieldAt bs 21 1)).map fun i =>
      { start := fieldAt bs (22 + 14 * i) 8, cnt := fieldAt bs (30 + 14 * i) 4, len := fieldAt bs (34 + 14 * i) 2 },
    seed := BitVec.ofNat 64 (fieldAt gr 0 8), strv := BitVec.ofNat 32 (fieldAt gr 8 4), cnt := BitVec.ofNat 16 (fieldAt gr 12 2),
    keyOk := bitAt gr 14 0 }

/-- The chain that the sequencer keeps of an accumulator (R176). -/
def chainRecord (a : Accum) : List Byte :=
  padBytes 16 (flagByte [a.started, a.win, a.dot] ++ leBytes 2 (ofSigned 16 a.l) ++ leBytes 2 a.m ++ leBytes 2 a.c)

/-- Valid shadow slots of the bench as primary, and witnesses sent to it by its partners, by tag (R189): as many as the area has
room for. -/
def shadowRecord (x : Bench) : List Byte :=
  let own := x.own.take 120
  let theirs := x.theirs.take 190
  leBytes 2 own.length ++ leBytes 2 theirs.length
    ++ (own.flatMap fun e => leBytes 1 e.1 ++ leBytes 1 e.2.partner ++ leBytes 4 e.2.opid.toNat ++ flagByte [e.2.wit.isSome]
        ++ leBytes 8 (e.2.wit.getD 0).toNat)
    ++ (theirs.flatMap fun e => leBytes 1 e.1 ++ leBytes 8 e.2.toNat)

def shadowOwn (bs : List Byte) : Sparse ShSlot :=
  (List.range (fieldAt bs 0 2)).foldl (fun m i =>
    let o := 4 + 15 * i
    spIns (fieldAt bs o 1) { partner := fieldAt bs (o + 1) 1, opid := BitVec.ofNat 32 (fieldAt bs (o + 2) 4),
                             wit := if bitAt bs (o + 6) 0 then some (BitVec.ofNat 64 (fieldAt bs (o + 7) 8)) else none } m) []

def shadowTheirs (bs : List Byte) : Sparse DWord :=
  (List.range (fieldAt bs 2 2)).foldl (fun m i =>
    let o := 4 + 15 * fieldAt bs 0 2 + 9 * i
    spIns (fieldAt bs o 1) (BitVec.ofNat 64 (fieldAt bs (o + 1) 8)) m) []

/-- Registers of the audit channels of a bench, which its record holds. -/
def auditRegs (b : Nat) : List Nat := (List.range 128).map fun i => Rg.BENCH_AUDn_OP b 0 + 4 * i

/-! ### Accumulators -/

/-- The four stickies of an accumulator: bit 0 INV, 1 OVP, 2 OVN, 3 UF (Table 6-5). -/
def stickByte (t : Stick) : List Byte := flagByte [t.inv, t.ovp, t.ovn, t.uf]
def stickAt (bs : List Byte) (o : Nat) : Stick :=
  { inv := bitAt bs o 0, ovp := bitAt bs o 1, ovn := bitAt bs o 2, uf := bitAt bs o 3 }

/-- The 32 bytes of a logical cell's accumulator (Table 6-5). -/
def cellRecord (a : Accum) (c : Cell) : List Byte :=
  leBytes 12 (ofSigned 96 c.acc) ++ leBytes 9 c.res.toNat ++ leBytes 4 (cellN a c) ++ stickByte c.st ++ List.replicate 6 0
def cellLoad (bs : List Byte) (o : Nat) : Cell :=
  { acc := toSigned 96 (fieldAt bs o 12), res := fieldAt bs (o + 12) 9, n := fieldAt bs (o + 21) 4, st := stickAt bs (o + 25) }

/-- The 32 bytes of a try cell's accumulator: acc (s160), the product count and the stickies. -/
def tryRecord (a : Accum) (c : Cell) : List Byte :=
  leBytes 20 (ofSigned 160 c.acc) ++ leBytes 4 (cellN a c) ++ stickByte c.st ++ List.replicate 7 0
def tryLoad (bs : List Byte) (o : Nat) : Cell :=
  { acc := toSigned 160 (fieldAt bs o 20), n := fieldAt bs (o + 20) 4, st := stickAt bs (o + 24) }

/-- The try cells: the try column, the try row, the corner (Table 4-1). -/
def tryCells : List (Nat × Nat) :=
  (List.range 128).map (·, 96) ++ (List.range 96).map (128, ·) ++ [(128, 96)]
/-- The logical cells, row by row. -/
def logCells : List (Nat × Nat) := (List.range 128).flatMap fun i => (List.range 96).map fun j => (i, j)

/-- Accumulator `k` (0 A, 1 B) from the record `bs`. -/
def accLoad (bs : List Byte) (k : Nat) : Accum :=
  let h := (bs.drop (0x300 + 16 * k)).take 16
  let a : Accum := { started := bitAt h 0 0, win := bitAt h 0 1, dot := bitAt h 0 2, l := toSigned 16 (fieldAt h 1 2),
                     m := fieldAt h 3 2, c := fieldAt h 5 2 }
  let a := logCells.foldl (fun a p => setCell p.1 p.2 (cellLoad bs (0x8000 + 64 * (96 * p.1 + p.2) + 32 * k)) a) a
  ((List.range 225).zip tryCells).foldl (fun a e => setCell e.2.1 e.2.2 (tryLoad bs (0x4000 + 64 * e.1 + 32 * k)) a) a

/-! ### Outfeed entries -/

/-- The elements of an entry, 4 bytes a position. -/
def entryRecord (e : OfEntry) : List Byte := padBytes 0xC000 (e.data.flatMap fun v => leBytes 4 v.1)

/-- The 64 bytes of an entry's descriptor; the last of its fields is the address of its exponent array. -/
def entryDesc (e : OfEntry) : List Byte :=
  padBytes 64 (flagByte [true, e.visible, e.suspect, e.prod] ++ leBytes 1 e.info.fmt ++ leBytes 2 e.rows ++ leBytes 2 e.data.length
    ++ leBytes 8 e.info.idx ++ leBytes 4 e.info.rs ++ leBytes 4 e.info.cs ++ leBytes 4 e.info.opid.toNat ++ leBytes 4 e.saddr)

/-- Entry `i` of the record `bs`, if it has one. Table 6-5 keeps no exponents: those of an FX entry are read again from the
exponent array of its drain, in the tray of `x` (log entry 25). -/
def entryLoad (x : Bench) (bs : List Byte) (i : Nat) : Option OfEntry :=
  let d := (bs.drop (0xF8000 + 64 * i)).take 64
  if bitAt d 0 0 = false then none
  else
    let info : SrcInfo := { fmt := fieldAt d 1 1, idx := fieldAt d 6 8, rs := fieldAt d 14 4, cs := fieldAt d 18 4,
                            opid := BitVec.ofNat 32 (fieldAt d 22 4) }
    let rows := fieldAt d 2 2
    let saddr := fieldAt d 26 4
    let ex (p : Nat) : Int :=
      if fmtFx info.fmt ∧ p % 128 < rows then fxExpAt x saddr info.idx (rcIndex info (p % 128) (p / 128)) else zeroE
    some { info := info, saddr := saddr, rows := rows, prod := bitAt d 0 3, suspect := bitAt d 0 2, visible := bitAt d 0 1,
           data := (List.range (fieldAt d 4 2)).map fun p => (fieldAt bs (0xC8000 + 0xC000 * i + 4 * p) 4, ex p) }

/-! ### The record -/

def recordSize : Nat := 0x280000
def recordBase (base k : Nat) : Nat := base + 0x10000 + recordSize * k

/-- The record of physical bench `b` up to its CRC: offsets 0 to 0xF_FFFB of Table 6-5. -/
def recordHead (s : State) (b : Nat) : List Byte :=
  let x := bench s b
  padBytes 0x1000 (strRecord x.f ++ strRecord x.b ++ strRecord x.u ++ chainRecord x.accA ++ chainRecord x.accB)
    ++ padBytes 0x1000 (((List.range 256).flatMap fun n => leBytes 2 (spGet 0 n x.clamps).toNat)
        ++ (List.range 32).flatMap fun q =>
          let n := (spGet [] q x.queues).length
          leBytes 1 0 ++ leBytes 1 (n % 16) ++ leBytes 1 n)
    ++ padBytes 0x1000 ((List.range 32).flatMap fun q => padBytes 128 ((spGet [] q x.queues).flatMap fun v => leBytes 8 v.toNat))
    ++ padBytes 0x1000 (grainRecord x.f ++ grainRecord x.b ++ grainRecord x.u
        ++ ((auditRegs b).flatMap fun a => leBytes 4 (rg s a).toNat) ++ shadowRecord x)
    ++ padBytes 0x4000 (tryCells.flatMap fun p => tryRecord x.accA (cellOf x.accA p.1 p.2) ++ tryRecord x.accB (cellOf x.accB p.1 p.2))
    ++ (logCells.flatMap fun p => cellRecord x.accA (cellOf x.accA p.1 p.2) ++ cellRecord x.accB (cellOf x.accB p.1 p.2))
    ++ padBytes 0x30000 (x.outfeed.flatMap entryRecord)
    ++ padBytes 0x100 (x.outfeed.flatMap entryDesc)
    ++ List.replicate 0x7EFC 0

/-- The record of physical bench `b` (Table 6-5). -/
def recordOf (s : State) (b : Nat) : List Byte :=
  let h := recordHead s b
  let t := trayBytes (bench s b) 0 trayEnd
  h ++ leBytes 4 (crc32 (h ++ t)).toNat ++ t

/-- A record agrees with its CRC (R156). -/
def recordOk (bs : List Byte) : Bool := fieldAt bs 0xFFFFC 4 == (crc32 (bs.take 0xFFFFC ++ bs.drop 0x100000)).toNat

/-- The tray of a record. -/
def trayLoad (bs : List Byte) : Sparse Byte :=
  (List.range trayEnd).foldl (fun m a => spPut 0 a (bs.getD (0x100000 + a) 0) m) []

/-- The bench that a record holds. Tile numbers (R165), which Table 6-5 does not name, start again from 0 (log entry 25). -/
def benchOf (bs : List Byte) : Bench :=
  let gr (k : Nat) : List Byte := (bs.drop (0x3000 + 16 * k)).take 16
  let st (k : Nat) : StreamSt := strLoad ((bs.drop (0x100 * k)).take 0x100) (gr k)
  let x : Bench := { tray := trayLoad bs }
  { x with
    f := st 0, b := st 1, u := st 2,
    clamps := (List.range 256).foldl (fun m n => spPut 0 n (BitVec.ofNat 16 (fieldAt bs (0x1000 + 2 * n) 2)) m) [],
    queues := (List.range 32).foldl (fun m q =>
      spPut [] q ((List.range (fieldAt bs (0x1200 + 3 * q + 2) 1)).map fun i =>
        BitVec.ofNat 64 (fieldAt bs (0x2000 + 128 * q + 8 * i) 8)) m) [],
    own := shadowOwn (bs.drop 0x3230), theirs := shadowTheirs (bs.drop 0x3230),
    accA := accLoad bs 0, accB := accLoad bs 1, outfeed := (List.range 4).filterMap (entryLoad x bs) }

/-- The audit channel registers that a record holds, for bench `b`. -/
def auditLoad (b : Nat) (bs : List Byte) (s : State) : State :=
  ((List.range 128).zip (auditRegs b)).foldl (fun s e => wr e.2 (word (fieldAt bs (0x3030 + 4 * e.1) 4)) s) s

end Sys2Proof.Machine
end

