-- ==== Sys2Proof/Machine/SeqEvents.lean ====
section
/-! DEFINITION. What happens to the sequencers without an instruction: marks, clamp updates, queue arrivals, prefetch,
lockstep, the hold, the bounds of waits, the freeze, starting and stopping streams, and the bench's own checks (chapters 5, 6
and 8). -/

namespace Sys2Proof.Machine

/-- The logical benches' physical benches, in logical order, each with a stream in order F, B, U. -/
def serviceStreams (s : State) : List (Nat × Stream) := s.benchMap.flatMap fun b => allStreams.map fun t => (b, t)

/-- Benches of the chip (Table 1-3: 132 physical benches). -/
def physEnd : Nat := 132
def chipStreams : List (Nat × Stream) := (List.range physEnd).flatMap fun b => allStreams.map fun t => (b, t)

/-- A stream leaves the instruction it waited in, which completes. -/
def leaveWait (b : Nat) (t : Stream) (s : State) : State :=
  modStr b t (fun x => { x with state := .run, wait := none, pc := x.pc + 1 }) s

/-! ### Gauge marks (R140, R150, R241) -/

/-- A stream of the chip that waits in WAITG for a mark that `past` holds of leaves it, unless its bench is frozen; a bench in
TEST never is (R104). -/
def marksRelease (past : DWord → Bool) (s : State) : State :=
  chipStreams.foldl (fun s p =>
    match (str s p.1 p.2).wait with
    | some (.mark v) => if past v && (!isFrozen s || inTest s p.1) then leaveWait p.1 p.2 s else s
    | _ => s) s

/-- Streams waiting in WAITG for a value that the gauge has passed, as they see it (R241), continue. -/
def releaseMarks (s : State) : State := marksRelease (markPassed s) s

/-- WAITG_RELEASE (R140, R241): gauge value `g` becomes visible to the benches 8 gt later, and every stream of the chip that waits
for it or an earlier one leaves WAITG, unless its bench is frozen; a mark passed in a freeze releases its WAITG at the resume
(R150). -/
def waitgRelease (g : DWord) (s : State) : State := releaseMarks (gaugeTo (g.toNat + 8) s)
def execWaitgRelease (g : DWord) (s : State) : Out := .next (waitgRelease g s)

/-! ### Clamps and queues (R145 to R147) -/

/-- Value of a clamp after the waiting streams `ws` have been taken in order, each satisfied one leaving its wait and
subtracting its threshold if it releases (R145). -/
def clampWaits (glob : Bool) (n : Nat) : List (Nat × Stream) → Nat → State → Nat × State
  | [], v, s => (v, s)
  | p :: ws, v, s =>
    match (str s p.1 p.2).state, (str s p.1 p.2).wait with
    | .wait, some (.clamp g m t rel _) =>
      if g = glob ∧ m = n ∧ t ≤ v then clampWaits glob n ws (if rel then v - t else v) (leaveWait p.1 p.2 s)
      else clampWaits glob n ws v s
    | _, _ => clampWaits glob n ws v s

/-- Value after the sets of a cycle, the last in F, B, U order winning (R145). Of sets of one global clamp from several benches the
one of the highest stream wins, of those the last queued: DESIGN CHOICE, log entry 73. -/
def clampSet (v : Nat) (rs : List ClampReq) : Nat :=
  let set := rs.foldl (fun (a : Option (Nat × Nat)) r =>
    match r.src with
    | some t => if (match a with | some (k, _) => decide (k ≤ strNo t) | none => true) then some (strNo t, r.v) else a
    | none => a) none
  match set with
  | some (_, x) => x
  | none => v

/-- Value after the sets and the adds of a cycle (R145). -/
def clampSum (v : Nat) (rs : List ClampReq) : Nat :=
  rs.foldl (fun a r => if r.src.isNone then a + r.v else a) (clampSet v rs)

/-- The instruction whose add first carries the sum past 0xFFFF, the adds taken as they arrived: stream and program counter; F
and 0 for a remote add (R159; DESIGN CHOICE, log entry 73). -/
def ovfOp : Nat → List ClampReq → Stream × Nat
  | _, [] => (.f, 0)
  | v, r :: rs =>
    if r.src.isSome then ovfOp v rs
    else if 0xFFFF < v + r.v then r.op.getD (.f, 0) else ovfOp (v + r.v) rs

/-- CLAMP_OVF, raised by the instruction `op`, on a local clamp is latched by its bench, on a global one by the CLAMPNET page
(R145, R146); the token is void. -/
def clampOvf (glob : Bool) (b n : Nat) (op : Stream × Nat) (s : State) : State :=
  if glob then
    voidBit 3 (if bit (rg s Rg.CLN_OVF) 31 then s else wr Rg.CLN_OVF (word (0x80000000 + n)) s)
  else benchVoid b 3 (syncLatch b syClampOvf op.1 false n op.2 s)

/-- The first `k` requests for clamp `n`, and the others. -/
def takeReqs (n : Nat) : Nat → List ClampReq → List ClampReq × List ClampReq
  | _, [] => ([], [])
  | 0, l => ([], l)
  | k + 1, r :: l =>
    if r.n = n then let q := takeReqs n k l
      (r :: q.1, q.2)
    else let q := takeReqs n (k + 1) l
      (q.1, r :: q.2)

/-- CLAMP_UPDATE (R145, R146): the requests of one cycle, the first `k` for clamp `n`, reach the clamp. -/
def clampUpdate (glob : Bool) (b n k : Nat) (s : State) : State :=
  let q := takeReqs n k (if glob then s.gclampReq else (bench s b).clampReq)
  let old := spGet 0 n (if glob then s.gclamps else (bench s b).clamps)
  let sum := clampSum old.toNat q.1
  let s := if glob then { s with gclampReq := q.2 } else modBench b (fun x => { x with clampReq := q.2 }) s
  let s := if sum > 0xFFFF then clampOvf glob b n (ovfOp (clampSet old.toNat q.1) q.1) s else s
  let r := clampWaits glob n (if glob then serviceStreams s else allStreams.map (b, ·)) (min sum 0xFFFF) s
  let v := BitVec.ofNat 16 r.1
  if glob then { r.2 with gclamps := spPut 0 n v r.2.gclamps }
  else modBench b (fun x => { x with clamps := spPut 0 n v x.clamps }) r.2
def execClampUpdate (glob : Bool) (b n k : Nat) (s : State) : Out := .next (clampUpdate glob b n k s)

/-- QUEUE_ENTRY_ARRIVE (R147): the oldest entry on its way to bench `b` arrives. -/
def queueEntryArrive (b : Nat) (s : State) : State :=
  match (bench s b).flights with
  | [] => s
  | f :: rest => modBench b (fun x => { x with
      flights := rest, queues := spPut [] f.q (spGet [] f.q x.queues ++ [f.v]) x.queues }) s
def execQueueEntryArrive (b : Nat) (s : State) : Out := .next (queueEntryArrive b s)

/-! ### The instruction store (R137, R467) -/

/-- The setup reads of a bench are closed to addresses outside the open space (R467). -/
def setupClosed (s : State) (a n : Nat) : Bool := decide (0 < n) && rangeAny a n (memClosed s)

/-- Data of a setup read of bench `b` that arrived with a parity error, the first of it at address `a`: EV-0x202 from the bench's
TRAY page (R467; which page, and which address of a table or a block, are DESIGN CHOICE, log entry 73), and the token void unless
the bench is in TEST. -/
def setupParity (b a : Nat) (s : State) : State := benchVoid b 2 (raiseEv (Pg.TRAY b) 0x202 a (a / 2 ^ 32) s)

/-- PREFETCH_BLOCK_ARRIVE (R137, R467): block `blk` of the stream's image, which the prefetcher has requested, is written into its
window, in the place of the block it displaces; `par` names its instructions that arrive with a parity error. -/
def prefetchBlockArrive (b : Nat) (t : Stream) (blk : Nat) (par : List Nat) (s : State) : State :=
  let w := winBlocks s b t
  if (str s b t).reqs.contains blk = false then s
  else
    let a := base48 s (Rg.SEQ_PROGn_LO b (strNo t)) + 1024 * blk
    let put (k : IBlock) : State → State :=
      modStr b t fun x => { x with
        blocks := x.blocks.filter (fun j => j.num % w ≠ blk % w) ++ [k], reqs := x.reqs.filter (· ≠ blk) }
    if setupClosed s a 1024 then put { num := blk, closed := true, bad := [], words := [] } s
    else
      let words := (List.range 64).map fun i => BitVec.ofNat 128 (leNat (memBytes s (a + 16 * i) 16))
      let bad := (List.range 64).filter fun i => par.contains i || rangeAny (a + 16 * i) 16 (memUe s)
      let s := benchUeReport b a 1024 s
      let s := par.foldl (fun s i => parityAt (jmcAt s (a + 16 * i)) s) s
      let s := match par with
        | [] => s
        | i :: _ => setupParity b (a + 16 * i) s
      put { num := blk, closed := false, bad := bad, words := words } s
def execPrefetchBlockArrive (b : Nat) (t : Stream) (blk : Nat) (par : List Nat) (s : State) : Out :=
  .next (prefetchBlockArrive b t blk par s)

/-! ### Lockstep (R136) -/

/-- A bench in service has failed: when no physical bench is in SPARE, a chip in READY or RUN enters QUIESCE (R13). -/
def benchFailed (s : State) : State :=
  if (s.chip = .ready ∨ s.chip = .run) ∧ (List.range physEnd).all (fun p => blkState s (Pg.BENCH p) ≠ 6) = true then
    setChip .quiesce s
  else s

/-- LOCKSTEP_MISMATCH (R136): a divergence produced in cycle `cyc`. A bench in TEST latches it and is not FENCED (R104). A bench
that is neither in service nor in TEST issues nothing that could diverge (DEDUCED, log entry 73). -/
def lockstepMismatch (b : Nat) (cyc : Nat) (s : State) : State :=
  if (bench s b).locked ∨ ((logOf s b).isNone ∧ inTest s b = false) then s
  else
    let s := syncLatch b syLockstep .f false 0 (str s b .f).pc s
    let s := modBench b (fun x => { x with locked := true }) s
    let s := allStreams.foldl (fun s t => modStr b t (fun x =>
      if x.state = .stopped ∨ x.state = .done then x else { x with state := .fault, wait := none, stall := none }) s) s
    let s := if bit (rg s (Rg.SEQ_LOCK_STAT b)) 31 then s
      else wr (Rg.SEQ_LOCK_STAT b) (word (0x80000000 + cyc % 2 ^ 16)) s
    let s := wr (Rg.HEALTH (Pg.BENCH b)) (rg s (Rg.HEALTH (Pg.BENCH b)) ||| 0x200) s
    let test := inTest s b
    let s := if test then s else setBlk (Pg.BENCH b) 4 s
    let s := benchVoid b 6 (raiseEv (Pg.SEQ b) 0x530 0 0 s)
    if test then s else benchFailed s
def execLockstepMismatch (b : Nat) (cyc : Nat) (s : State) : Out := .next (lockstepMismatch b cyc s)

/-! ### The hold (R148 to R151, R158) -/

/-- The item of a ticket that must arrive within its budget has arrived (Table 6-4). -/
def ticketArrived (x : Bench) (n : Nat) : Bool :=
  match ticketOf x n with
  | none => true
  | some k => match k.op with
    | .dmal | .dmax | .rread => k.sb.isNone
    | .chkcmp => (spFind k.tag x.theirs).isSome
    | _ => false

def lateArrived (s : State) : LateItem → Bool
  | .ticket b n => ticketArrived (bench s b) n
  | .block b t blk => (str s b t).blocks.any (·.num = blk)

def lateBench : LateItem → Nat
  | .ticket b _ => b
  | .block b _ _ => b

/-- Whether the budget of an item is of class `cls`; that of a requested block is class 7 (R137, R148). -/
def lateBudgeted (s : State) (cls : Nat) : LateItem → Bool
  | .ticket b n => match ticketOf (Machine.bench s b) n with
    | some k => k.bc = cls && cls ≠ 0
    | none => false
  | .block b t blk => cls = 7 && (str s b t).reqs.contains blk

/-- A hold is raised for logical bench `l` and budget class `cls` (R149, R151). -/
def raiseHold (l cls : Nat) (s : State) : State :=
  wr Rg.HOLD_LAST (word (0x80000000 + l % 128 * 256 + cls % 16))
    (satAdd Rg.HOLD_COUNT 1 { s with hold := .frozen, frozen := true })

/-- HOLD_DETECT (R149): a budget of class `cls` reaches 0 with its item absent. The first one raises the hold; one that
expires before the benches are frozen joins it; none expires while a fence or rest freezes them. A bench in TEST never raises a
hold (R104). -/
def holdDetect (cls : Nat) (it : LateItem) (s : State) : State :=
  match logOf s (lateBench it) with
  | none => s
  | some l =>
    if (isFrozen s && s.hold = .none) = true ∨ s.chip = .rest ∨ s.hold = .releasing ∨ lateBudgeted s cls it = false ∨ lateArrived s it = true ∨ s.late.contains it = true then s
    else
      let s := if s.hold = .none then raiseHold l cls s else s
      { s with late := s.late ++ [it] }
def execHoldDetect (cls : Nat) (it : LateItem) (s : State) : Out := .next (holdDetect cls it s)

/-- HOLD_RELEASE (R149): every late item has arrived, and no bench swap still needs the freeze (R362). -/
def holdRelease (s : State) : State :=
  if s.hold = .frozen ∧ s.late.all (fun i => lateArrived s i) = true
      ∧ (match s.swap with | some w => w.held | none => false) = false then
    { s with hold := .releasing, late := [] }
  else s
def execHoldRelease (s : State) : Out := .next (holdRelease s)

/-- HOLD_RESUME (R149, R150, R151): the benches resume after `cyc` frozen cycles, and marks passed meanwhile release their
WAITG. -/
def holdResume (cyc : Nat) (s : State) : State :=
  if s.hold = .releasing then
    let s := satAdd48 Rg.HOLD_CYC_LO cyc { s with hold := .none, frozen := false }
    if isFrozen s then s else releaseMarks s
  else s
def execHoldResume (cyc : Nat) (s : State) : Out := .next (holdResume cyc s)

/-- A late item is abandoned and HOLD_TO raised on its bench (R158). `begun` gives, by bench and ticket, the granule
operations that had begun. -/
def abandonLate (begun : List (Nat × Nat × List Nat)) (s : State) (it : LateItem) : State :=
  if lateArrived s it then s
  else match it with
    | .ticket b n =>
      match ticketOf (bench s b) n with
      | some k =>
        let done := begun.flatMap fun e => if e.1 = b ∧ e.2.1 = n then e.2.2 else []
        syncFault b syHoldTo 0x533 k.stream false 0 k.pc (cutTicket b k done .abandon s)
      | none => s
    | .block b t blk => syncFault b syHoldTo 0x533 t false 0 (str s b t).pc
        (modStr b t (fun x => { x with reqs := x.reqs.filter (· ≠ blk) }) s)

/-- HOLD_TIMEOUT (R158): HOLD_TO expires; the late items are abandoned and the hold is released. -/
def holdTimeout (begun : List (Nat × Nat × List Nat)) (s : State) : State :=
  if s.hold = .frozen ∧ s.late ≠ [] then
    { s.late.foldl (abandonLate begun) s with hold := .releasing, late := [] }
  else s
def execHoldTimeout (begun : List (Nat × Nat × List Nat)) (s : State) : Out := .next (holdTimeout begun s)

/-! ### Bounds of waits (R157, Table 6-6) -/

/-- The wait of stream `t` that SEQ_UNIT_TO bounds, if any: the queue number of a queue stall, 0 otherwise, and the program
counter of the instruction that waits. On a bench in TEST a late budgeted item is such a wait (R104). -/
def unitWait (s : State) (b : Nat) (t : Stream) : Option (Nat × Nat) :=
  let x := bench s b
  let st := x.str t
  match st.state, st.wait, st.stall with
  | .wait, some (.queue q), _ => some (q, st.pc)
  | .run, _, some _ => some (0, st.pc)
  | _, _, _ =>
    match x.tap.filter (·.stream = t) with
    | some p => some (0, p.pc)
    | none =>
      if inTest s b then
        match x.tickets.find? (fun k => k.stream = t ∧ k.bc ≠ 0) with
        | some k => some (0, k.pc)
        | none => if st.state = .run ∧ st.reqs.contains (st.pc / 64) then some (0, st.pc) else none
      else none

/-- UNIT_TIMEOUT (R157). -/
def unitTimeout (b : Nat) (t : Stream) (s : State) : State :=
  match unitWait s b t with
  | some w => if isFrozen s && !inTest s b then s else syncFault b syUnitTo 0x532 t false w.1 w.2 s
  | none => s
def execUnitTimeout (b : Nat) (t : Stream) (s : State) : Out := .next (unitTimeout b t s)

/-- CLAMP_TIMEOUT (R157). -/
def clampTimeout (b : Nat) (t : Stream) (s : State) : State :=
  match (str s b t).state, (str s b t).wait with
  | .wait, some (.clamp g n _ _ _) =>
    if isFrozen s && !inTest s b then s else syncFault b syClampTo 0x531 t g n (str s b t).pc s
  | _, _ => s
def execClampTimeout (b : Nat) (t : Stream) (s : State) : Out := .next (clampTimeout b t s)

/-! ### Starting and stopping (R205, R206, R323, R324, R455, R104) -/

/-- Registers that a step's OPEN clears on physical bench `b`, and a START on a bench in TEST: the trap latches (Tables 3-9,
4-8, 5-7, 6-7, 7-7) and the counters of Tables 4-8, 6-8 and 7-7. -/
def latchRegs (b : Nat) : List Nat :=
  [Rg.BENCH_NTRAP_OP b, Rg.BENCH_NTRAP_CAUSE b, Rg.BENCH_NTRAP_POS_LO b, Rg.BENCH_NTRAP_POS_HI b,
   Rg.BENCH_NTRAP_COUNT b, Rg.BENCH_XTRAP_OP b, Rg.BENCH_XTRAP_CAUSE b, Rg.BENCH_XTRAP_PC b, Rg.BENCH_XTRAP_COUNT b,
   Rg.BENCH_TRY_STAT b, Rg.BENCH_TRY_OP b, Rg.BENCH_TRY_POS_LO b, Rg.BENCH_TRY_POS_HI b, Rg.BENCH_TRY_SKIP b,
   Rg.BENCH_TRY_COUNT b, Rg.BENCH_ARR_LSTALL_LO b, Rg.BENCH_ARR_LSTALL_HI b, Rg.BENCH_ARR_ASTALL b,
   Rg.BENCH_ARR_DWAIT b, Rg.BENCH_ILK_TRAY b, Rg.BENCH_ILK_QUEUE b, Rg.BENCH_TKT_WAIT b, Rg.PLANE_GRAIN_STAT b,
   Rg.PLANE_SHD_STAT b, Rg.PLANE_SHD_OP b, Rg.PLANE_SHD_WITP_LO b, Rg.PLANE_SHD_WITP_HI b, Rg.PLANE_SHD_WITS_LO b,
   Rg.PLANE_SHD_WITS_HI b, Rg.PLANE_SHD_COUNT b, Rg.SEQ_LOCK_STAT b, Rg.SEQ_SYNC_FAULT b, Rg.SEQ_SYNC_PC b]

/-- A mapped bench is IDLE while all its streams are STOPPED, and ACTIVE otherwise (Table 15-4). -/
def benchActivity (b : Nat) (s : State) : State :=
  let c := blkState s (Pg.BENCH b)
  if (logOf s b).isSome ∧ (c = 2 ∨ c = 3) then
    setBlk (Pg.BENCH b) (if allStreams.all fun t => (str s b t).state = .stopped then 2 else 3) s
  else s

/-- The dovetail table is loaded when the streams leave STOPPED (R142); a load that fails leaves the trap that its streams
raise (R467). -/
def loadTable (b : Nat) (par : Bool) (s : State) : State :=
  let a := base48 s (Rg.SEQ_DT_BASE_LO b)
  if setupClosed s a 128 then modBench b (fun x => { x with dt := [], dtBad := some xMemRange }) s
  else
    let bad := par || rangeAny a 128 (memUe s)
    let dt := (chunks 2 64 (memBytes s a 128)).map fun v => BitVec.ofNat 16 v
    let s := modBench b (fun x => { x with dt := dt, dtBad := if bad then some xDmaErr else none }) (benchUeReport b a 128 s)
    if par then setupParity b a (parityAt (jmcAt s a) s) else s

/-- The preload copy of a START (R205): the trap it leaves, and the state after it. `par` gives the bytes of the image whose words
arrive with a parity error, which poisons them in the tray (R217). -/
def preload (b : Nat) (par : List Nat) (s : State) : Option Nat × State :=
  let a := base48 s (Rg.SEQ_PRE_LO b)
  let n := (rg s (Rg.SEQ_PRE_LEN b)).toNat
  if n = 0 then (none, s)
  else if setupClosed s a n then (some xMemRange, s)
  else
    let par := par.filter (· < n)
    let bad := par != [] || rangeAny a n (memUe s)
    let dst := (rg s (Rg.SEQ_PRE_DST b)).toNat
    let s := (rowPieces (n / 128 + 2) a dst n).foldl (loadPiece b) s
    let s := par.foldl (fun s i => parityAt (jmcAt s (a + i)) (modBench b (traySpoil (dst + i)) s)) s
    let s := match par with
      | [] => s
      | i :: _ => setupParity b (dst + i) s
    (if bad then some xDmaErr else none, s)

/-- Streams named by a 3-bit mask. -/
def maskStreams (m : Nat) : List Stream := allStreams.filter fun t => m / 2 ^ strNo t % 2 = 1

/-- The START of the streams of a mask (R205; R104 for a bench in TEST). `parT` says that the table arrives with a
parity error, `parP` which bytes of the preload image do; the prefetcher requests the whole of each window. -/
def startStreams (b mask : Nat) (parT : Bool) (parP : List Nat) (s : State) : State :=
  let qb := if inTest s b then 0 else rg64 s Rg.HOLD_START_MARK_LO
  let s := if inTest s b then
      modBench b (fun x => { x with locked := false, tiles := [] }) (clearRegs (latchRegs b) s)
    else s
  let s := if allStreams.all fun t => (str s b t).state = .stopped then loadTable b parT s else s
  let r := preload b parP s
  let bad := match (bench s b).dtBad with
    | some c => some c
    | none => r.1
  benchActivity b ((maskStreams mask).foldl (fun s t => modStr b t (fun x => { x with
    state := .armed, pc := 0, loops := [], qb := qb, wait := none, stall := none, mark := none, blocks := [],
    reqs := List.range (winBlocks r.2 b t), setup := bad }) s) r.2)

/-- The STOP of the streams of a mask. -/
def stopStreams (b mask : Nat) (s : State) : State :=
  benchActivity b ((maskStreams mask).foldl (fun s t => modStr b t (fun x => { x with
    state := .stopped, wait := none, stall := none, mark := none, reqs := [] }) s) s)

/-- Why a write of SEQ_STREAM_CTL is refused (R455): the reasons that apply. -/
def streamCtlBad (b start stop : Nat) (s : State) : List (Bool × Nat) :=
  let test := inTest s b
  let ss := maskStreams start
  let ps := maskStreams stop
  [(ss.any fun t => (str s b t).state ≠ .stopped, rsState),
   (!ss.isEmpty && !test && decide (rg64 s Rg.HOLD_START_MARK_LO ≤ s.gauge), rsState),
   (!ss.isEmpty && !test && s.stepSt != .opened, rsState),
   (ps.any fun t => (str s b t).state = .held, rsState),
   (!ps.isEmpty && !test && stepLive s, rsState),
   (ss.any fun t => ps.contains t, rsValue)]

/-- A write of SEQ_STREAM_CTL, judged as a whole (R455). -/
def streamCtlWrite (b : Nat) (v : Word) (parT : Bool) (parP : List Nat) (s : State) : State :=
  let start := bits v 2 0
  let stop := bits v 10 8
  match lowest (streamCtlBad b start stop s) with
  | some r => refuse (Pg.SEQ b) 0x040 r v.toNat s
  | none =>
    let s := if stop = 0 then s else stopStreams b stop s
    if start = 0 then s else startStreams b start parT parP s

/-- STREAM_START (R205). -/
def execStreamStart (b : Nat) (mask : BitVec 3) (parT : Bool) (parP : List Nat) (s : State) : Out :=
  .next (pageCmd (Pg.SEQ b) 0x040 (word mask.toNat) (streamCtlWrite b (word mask.toNat) parT parP) s)
/-- STREAM_STOP (R455). -/
def execStreamStop (b : Nat) (mask : BitVec 3) (s : State) : Out :=
  .next (pageCmd (Pg.SEQ b) 0x040 (word (mask.toNat * 256)) (streamCtlWrite b (word (mask.toNat * 256)) false []) s)

/-- STREAM_RUN (R205, R467): an ARMED stream whose setup reads failed enters FAULT; one whose first block has arrived enters
RUN. -/
def streamRun (b : Nat) (t : Stream) (s : State) : State :=
  let x := str s b t
  if x.state ≠ .armed then s
  else match x.setup with
    | some c => modStr b t (fun x => { x with state := .fault }) (execTrap b t 0 0 c s)
    | none => if x.blocks.any (·.num = 0) then modStr b t (fun x => { x with state := .run }) s else s
def execStreamRun (b : Nat) (t : Stream) (s : State) : Out := .next (streamRun b t s)

/-! ### The freeze (R155, R156, R336, R456) -/

/-- HELD streams return to RUN, and their HOLDPT completes. -/
def releaseHeld (s : State) : State :=
  (serviceStreams s).foldl (fun s p => if (str s p.1 p.2).state = .held then leaveWait p.1 p.2 s else s) s

/-- HOLD_FREEZE_STAT: DONE, FAIL and BUSY as given, REFUSED_CRC kept. -/
def freezeStat (done fail busy : Bool) (s : State) : State :=
  wrF Rg.HOLD_FREEZE_STAT 31 29 (4 * b2n done + 2 * b2n fail + b2n busy) s

/-- The end of a freeze clears ARM (R456). -/
def disarmFreeze (s : State) : State := wrF Rg.HOLD_FREEZE_CTL 31 31 0 s

/-- Every stream of every logical bench is HELD or DONE, and nothing is in progress (R155): no drain, no outfeed entry on its way, no
tap, no ticket and no clamp request or queue entry in flight. -/
def quiescent (s : State) : Bool :=
  (serviceStreams s).all (fun p => (str s p.1 p.2).state = .held || (str s p.1 p.2).state = .done)
    && s.gclampReq.isEmpty
    && s.benchMap.all fun b =>
      let x := bench s b
      x.tickets.isEmpty && x.drain.isNone && x.reading.isEmpty && x.tap.isNone && x.clampReq.isEmpty && x.flights.isEmpty

/-- The chip section of a freeze image (Table 6-5), in bytes. -/
def chipSection (s : State) : List Byte :=
  let head := leBytes 4 1 ++ leBytes 4 (bits (rg s Rg.HOLD_FREEZE_CTL) 15 0) ++ leBytes 8 (s.stepNo % 2 ^ 48)
    ++ leBytes 4 (rg s (Rg.LKD_EPOCH 0)).toNat ++ leBytes 4 (bits (rg s (Rg.LKD_MEMBER 0)) 13 0)
    ++ leBytes 8 (rg64 s Rg.HOLD_JIG_ID_LO).toNat ++ leBytes 8 s.gauge.toNat ++ leBytes 8 s.wsum.toNat
    ++ leBytes 4 (b2n (s.cause ≠ 0))
  let clamps := (List.range 64).flatMap fun n => leBytes 2 (spGet 0 n s.gclamps).toNat
  let body := head ++ List.replicate (0x100 - head.length) 0 ++ clamps ++ List.replicate (0xFFFC - 0x100 - clamps.length) 0
  body ++ leBytes 4 (crc32 body).toNat

/-- A record of a freeze image, `e` its logical and its physical bench, is written (R155); uncorrectable tray words that the dump
reads are reported, and spoil the record (R216). -/
def dumpRecord (base : Nat) (s : State) (e : Nat × Nat) : State :=
  let a := recordBase base e.1
  if unitWriteOk s a recordSize = false then s
  else
    let bad := (bench s e.2).trayBad
    let s := trayUeReport e.2 [(0, trayEnd)] (memPutAll a (recordOf s e.2) s)
    bad.foldl (fun s w => memSpoil (a + 0x100000 + 4 * w) s) s

/-- FREEZE_DUMP (R155): at quiescence the image is written, DONE set and EV-0x010 written. -/
def freezeDump (s : State) : State :=
  let st := rg s Rg.HOLD_FREEZE_STAT
  if bit st 29 = false ∨ bit (rg s Rg.HOLD_FREEZE_CTL) 31 = false ∨ quiescent s = false then s
  else
    let base := base48 s Rg.HOLD_FREEZE_BASE_LO
    let chip := chipSection s
    let s := if unitWriteOk s base 0x10000 then memPutAll base chip s else s
    let s := ((List.range s.benchMap.length).zip s.benchMap).foldl (dumpRecord base) s
    raiseEv Pg.HOLD 0x010 0 0 (disarmFreeze (freezeStat true false false s))
def execFreezeDump (s : State) : Out := .next (freezeDump s)

/-- FREEZE_ABANDON (R155): 10 ms pass after the arming without quiescence. -/
def freezeAbandon (s : State) : State :=
  if bit (rg s Rg.HOLD_FREEZE_CTL) 31 = false then s
  else raiseEv Pg.HOLD 0x011 0 0 (disarmFreeze (freezeStat false true false (releaseHeld s)))
def execFreezeAbandon (s : State) : Out := .next (freezeAbandon s)

/-- The resume mark is reached (R156). -/
def atResumeMark (s : State) : State := gaugeTo ((rg64 s Rg.HOLD_RESUME_MARK_LO).toNat + 8) s

/-- RESUME with MODE CONTINUE (R156): at the mark the HELD streams continue. -/
def resumeContinue (s : State) : State :=
  raiseEv Pg.HOLD 0x012 0 0 (releaseHeld (atResumeMark s))

/-- The image at HOLD_FREEZE_BASE agrees with its CRCs, the chip section's and every bench record's, and its jig identity with
HOLD_JIG_ID (R156); data that cannot be read agrees with nothing. -/
def imageOk (s : State) : Bool :=
  let base := base48 s Rg.HOLD_FREEZE_BASE_LO
  let n := s.benchMap.length
  let chip := memBytes s base 0x10000
  decide (base + 0x10000 + n * recordSize ≤ memEnd s) && !rangeAny base (0x10000 + n * recordSize) (memUe s)
    && fieldAt chip 0xFFFC 4 == (crc32 (chip.take 0xFFFC)).toNat && fieldAt chip 0x18 8 == (rg64 s Rg.HOLD_JIG_ID_LO).toNat
    && (List.range n).all fun k => recordOk (memBytes s (recordBase base k) recordSize)

/-- Record `k` of the image at `base` is loaded into the physical bench of logical bench `k`. The dovetail table and the
instruction store, which no record holds, are read from memory as at a START (R137, R142): a table that cannot be read puts the
bench's streams in FAULT (R467). -/
def loadRecord (base : Nat) (s : State) (k : Nat) : State :=
  match physOf s k with
  | some b =>
    let bs := memBytes s (recordBase base k) recordSize
    let s := auditLoad b bs (loadTable b false (setBench b (benchOf bs) s))
    let s := allStreams.foldl (fun s t => modStr b t (fun x => { x with
      reqs := (List.range (winBlocks s b t)).map (x.pc / 64 + ·) }) s) s
    match (bench s b).dtBad with
    | some c => allStreams.foldl (fun s t => if (str s b t).state = .held then
        modStr b t (fun x => { x with state := .fault }) (execTrap b t 0 0 c s) else s) s
    | none => s
  | none => s

/-- RESUME with MODE LOAD (R156, R336): the image is checked and loaded; its streams continue when the step enters RUN at
HOLD_RESUME_MARK (R323). -/
def resumeLoad (v : Word) (s : State) : State :=
  if imageOk s = false then refuse Pg.HOLD 0x058 rsValue v.toNat (wrF Rg.HOLD_FREEZE_STAT 28 28 1 s)
  else
    let base := base48 s Rg.HOLD_FREEZE_BASE_LO
    let chip := memBytes s base 0x10000
    let s := (List.range s.benchMap.length).foldl (loadRecord base) s
    let clamps := (List.range 64).foldl (fun m n =>
      spPut 0 n (BitVec.ofNat 16 (fieldAt chip (0x100 + 2 * n) 2)) m) ([] : Sparse (BitVec 16))
    let s := { s with gclamps := clamps, wsum := BitVec.ofNat 64 (fieldAt chip 0x28 8),
                      cause := if fieldAt chip 0x30 4 % 2 = 1 then s.cause ||| 2 ^ 7 else s.cause }
    let s := wr Rg.SEAL_STEP_STAT (rg s Rg.SEAL_STEP_STAT ||| 0x08000000) s
    raiseEv Pg.HOLD 0x012 0 0 (wrF Rg.HOLD_FREEZE_STAT 29 28 2
      (s.benchMap.foldl (fun s b => benchActivity b s) s))

/-- Why a write of HOLD_FREEZE_CTL is refused (R155, R323, R456). -/
def freezeCtlBad (v : Word) (s : State) : List (Bool × Nat) :=
  let st := rg s Rg.HOLD_FREEZE_STAT
  let arm := bit v 31
  let res := bit v 30
  let load := bit v 29
  [(arm && s.stepSt != .run, rsState),
   (res && !load && !bit st 31, rsState),
   (res && load && !(chipStreams.all fun p => (str s p.1 p.2).state = .stopped || inTest s p.1), rsState),
   (res && load && s.stepSt != .opened, rsState),
   (arm && res, rsValue),
   ((arm || res) && bit st 29, rsBusy)]

/-- A write of HOLD_FREEZE_CTL (R155, R156, R456). -/
def freezeCtlWrite (v : Word) (s : State) : State :=
  match lowest (freezeCtlBad v s) with
  | some r => refuse Pg.HOLD 0x058 r v.toNat s
  | none =>
    let s := wr Rg.HOLD_FREEZE_CTL (v &&& 0xA000FFFF) s
    let s := if bit v 31 then wr Rg.HOLD_FREEZE_STAT 0 s else s
    if bit v 30 then (if bit v 29 then resumeLoad v s else resumeContinue s) else s

/-- FREEZE_ARM (R155). -/
def execFreezeArm (id : BitVec 16) (s : State) : Out :=
  let v := word (0x80000000 + id.toNat)
  .next (pageCmd Pg.HOLD 0x058 v (freezeCtlWrite v) s)
/-- FREEZE_RESUME_CONTINUE (R156). -/
def execFreezeResumeContinue (s : State) : Out :=
  let v := word (0x40000000 + bits (rg s Rg.HOLD_FREEZE_CTL) 15 0)
  .next (pageCmd Pg.HOLD 0x058 v (freezeCtlWrite v) s)
/-- FREEZE_RESUME_LOAD (R156). -/
def execFreezeResumeLoad (s : State) : Out :=
  let v := word (0x60000000 + bits (rg s Rg.HOLD_FREEZE_CTL) 15 0)
  .next (pageCmd Pg.HOLD 0x058 v (freezeCtlWrite v) s)

/-! ### The bench's own checks (R103, R124) -/

/-- A write of BENCH_TRY_INJ (R103, Table 4-10): ARM only in TEST, and a cell that exists. -/
def tryInjWrite (b : Nat) (v : Word) (s : State) : State :=
  match lowest [(bit v 31 && !inTest s b, rsState),
      (decide (128 < bits v 30 23) || decide (96 < bits v 22 16) || decide (95 < bits v 14 8), rsValue)] with
  | some r => refuse (Pg.BENCH b) 0x258 r v.toNat s
  | none => wr (Rg.BENCH_TRY_INJ b) (v &&& 0xFFFF7F01) s
/-- TRY_INJECT (R103). -/
def execTryInject (b : Nat) (v : Word) (s : State) : Out :=
  .next (pageCmd (Pg.BENCH b) 0x258 v (tryInjWrite b v) s)

/-- A write of PLANE_TTAB_CTL (R124): refused unless the bench is IDLE or in TEST. -/
def ttabCtlWrite (b : Nat) (v : Word) (s : State) : State :=
  if bit v 0 = false then s
  else if blkState s (Pg.BENCH b) = 2 ∨ inTest s b = true then
    wrF (Rg.PLANE_TTAB_STAT b) 31 30 0 { s with ttabBusy := setIns b s.ttabBusy }
  else refuse (Pg.PLANE b) 0x050 rsState v.toNat s
/-- TABLE_CHECK (R124). -/
def execTableCheck (b : Nat) (s : State) : Out := .next (pageCmd (Pg.PLANE b) 0x050 1 (ttabCtlWrite b 1) s)

/-- TABLE_CHECK_DONE (R124, R376): the check ends, and its outcome sets DONE or FAIL and the bench's HEALTH bit. -/
def tableCheckDone (b : Nat) (ok : Bool) (s : State) : State :=
  if s.ttabBusy.contains b = false then s
  else
    let s := { s with ttabBusy := s.ttabBusy.erase b }
    let s := wrF (Rg.PLANE_TTAB_STAT b) 31 30 (if ok then 2 else 3) s
    let s := wrF (Rg.HEALTH (Pg.BENCH b)) 10 10 (b2n ok) s
    if ok then s else raiseEv (Pg.PLANE b) 0x522 0 0 s
def execTableCheckDone (b : Nat) (ok : Bool) (s : State) : Out := .next (tableCheckDone b ok s)

end Sys2Proof.Machine
end

