-- ==== Sys2Proof/Machine/Rest.lean ====
section
/-! DEFINITION. The rest state (section 14.4): its causes, the entry, and what the entry ends. -/

namespace Sys2Proof.Machine

/-- Counters that a telemetry record reports over its interval, though a step's OPEN clears them (Table 15-10): the field, and
the weight of the register in it. Fields 4x to 4x + 3 are the counts of spline x; 64 holds, 65 frozen cycles, 67 corrected words, 68
uncorrectable ones, 69 glued units, and 70 + b the interlock stalls of physical bench b. -/
def telKey (a : Nat) : Option (Nat × Nat) :=
  let i := regInst a
  match regCls a, regOff a with
  | 0x10, 0x060 => some (4 * i, 1)
  | 0x10, 0x064 => some (4 * i + 1, 1)
  | 0x10, 0x068 => some (4 * i + 2, 1)
  | 0x10, 0x078 => some (4 * i + 3, 1)
  | 0x08, 0x048 => some (64, 1)
  | 0x08, 0x04C => some (65, 1)
  | 0x08, 0x050 => some (65, 2 ^ 32)
  | 0x01, 0x290 => some (70 + i, 1)
  | 0x01, 0x294 => some (70 + i, 1)
  | 0x0C, 0x044 => some (67, 1)
  | 0x0C, 0x048 => some (68, 1)
  | 0x0C, 0x064 => some (69, 1)
  | _, _ => none

/-- Counts of the fields of `telKey`, added up over a list of registers. -/
def telSum (l : Sparse Nat) (regs : Sparse Word) : Sparse Nat :=
  regs.foldl (fun l e => match telKey e.1 with
    | some (k, w) => spPut 0 k (spGet 0 k l + w * e.2.toNat) l
    | none => l) l

/-- The registers that `p` names return to their reset values; what telemetry counts of them is kept. -/
def resetRegs (p : Nat → Bool) (s : State) : State :=
  { s with regs := s.regs.filter (fun e => !p e.1), telLost := telSum s.telLost (s.regs.filter fun e => p e.1) }

/-- A cause of rest is active, or is not (PLUMB_REST_PEND). -/
def restPend (c : Nat) (on : Bool) (s : State) : State := wrF Rg.PLUMB_REST_PEND c c (b2n on) s

/-- ALERT_N, as PLUMB_STAT.ALERT shows it (Table 14-10). -/
def setAlert (on : Bool) (s : State) : State := wrF Rg.PLUMB_STAT 30 30 (b2n on) s

/-- The causes of rest for which ALERT_N is low (Table 14-3). -/
def restAlerts : List Nat := [3, 4, 7, 10]

/-- A RUN step that has ended returns the chip to READY (Table 15-3). -/
def stepEnded (s : State) : State := if s.chip = .run then setChip .ready s else s

/-- The step ends VOID: EV-0x024 carries `cause`. Digests are written when it leaves CLOSE (R461). -/
def endVoid (cause : Nat) (s : State) : State :=
  let s := if s.stepSt = .close then writeDigests s else s
  raiseEv Pg.SEALU 0x024 cause 0 { s with stepSt := .void }

/-- The rest state ends a step in OPEN, RUN or CLOSE: its own token takes cause bit 7, and it ends VOID without a token (Table
13-2). -/
def restStep (s : State) : State := if stepLive s then (fun s => endVoid s.cause s) (voidBit 7 s) else s

/-- A freeze dump in progress is abandoned (R352). -/
def restFreeze (s : State) : State :=
  if bit (rg s Rg.HOLD_FREEZE_STAT) 29 || bit (rg s Rg.HOLD_FREEZE_CTL) 31 then
    disarmFreeze (freezeStat false true false s)
  else s

/-- A swap whose map update has not occurred is abandoned (R363): the mapping stays, and the command reports it. -/
def dropSwap (s : State) : State :=
  match s.swap with
  | none => s
  | some w => cmdEnd 0x03 resAbandoned (raiseEv Pg.HOLD 0x508 w.l 0 { s with swap := none })

/-- The chip enters REST with its first cause (R350 to R352). -/
def restGo (c : Nat) (s : State) : State :=
  let s := { restStep s with restTest := s.chip = .test, restN := true }
  let s := wrF Rg.PLUMB_STAT 31 31 1 (dropSwap (restFreeze (setChip .rest s)))
  raiseEv Pg.PLUMB 0x500 c 0 (wr Rg.PLUMB_REST_CAUSE (word (0x80000000 + c)) s)

/-! ### Waking (R432, R434) -/

/-- The power state (Table 17-12): 0 ACTIVE, 1 IDLE, 2 NAP. -/
def pstate (s : State) : Nat := bits (rg s Rg.PWR_STAT) 31 30
def setPstate (k : Nat) (s : State) : State := wrF Rg.PWR_STAT 31 30 k s

/-- A wake ends (R432): its source is recorded and EV-0x602 written. A wake that no source asked for, as a cause of rest makes
in NAP, has none that a rule states: a free value. -/
def wakeEvent (src : Option Nat) (s : State) : State :=
  match src with
  | some k => raiseEv Pg.PWR 0x602 k 0 (wr Rg.PWR_WAKE_SRC (word (0x80000000 + k)) s)
  | none =>
    let f := freeBits 4 s
    raiseEv Pg.PWR 0x602 f.1 0 f.2

/-- 128 logical benches are mapped to benches in service. -/
def mapped128 (s : State) : Bool :=
  s.benchMap.length = 128 && s.benchMap.all fun b => blkState s (Pg.BENCH b) = 2 || blkState s (Pg.BENCH b) = 3

/-- The wake from NAP (R432): the benches come up in the reset state, and the chip enters READY; QUIESCE where the map
holds fewer than 128 benches in service (R13; DEDUCED, log entry 74). -/
def napUp (src : Option Nat) (s : State) : State :=
  let s := s.benchMap.foldl (fun s b => setBlk (Pg.BENCH b) (if blkState s (Pg.BENCH b) = 0 then 0 else 2) s)
    { s with wakeReq := none }
  wakeEvent src (cmdEnd 0x0B resOk (setChip (if mapped128 s then .ready else .quiesce) (setPstate 0 s)))

/-- Wake source `k` of Table 17-6: in IDLE the part is ACTIVE again; in NAP and, but for a flit, in DEEP the wake begins. -/
def wake (k : Nat) (s : State) : State :=
  if bit (rg s Rg.PWR_WAKE_EN) k = false then s
  else match s.chip with
    | .nap => if s.wakeReq.isSome then s else { s with wakeReq := some k }
    | .deep => if s.wakeReq.isSome || k = 0 then s else { s with wakeReq := some k }
    | .ready | .quiesce => if pstate s = 1 then wakeEvent (some k) (setPstate 0 s) else s
    | _ => s

/-- Plumb decides on rest with cause `c` of Table 14-4. The cause stays active, but for COMMAND; the first one is latched. A
chip in NAP is woken first, since REST is entered from READY, RUN, QUIESCE or TEST alone; one in BOOT or CALIB enters rest
when CALIB ends (R352), and in DEEP ALERT_N is asserted (R434). DEDUCED, log entry 26. -/
def enterRest (c : Nat) (s : State) : State :=
  let s := if c = 8 then s else restPend c true s
  let s := if restAlerts.contains c then setAlert true s else s
  match s.chip with
  | .ready | .run | .quiesce | .test => restGo c s
  | .nap => restGo c (napUp none s)
  | .deep => setAlert true s
  | _ => s

/-! ### Commands that meet an action of Plumb (R18) -/

/-- The domain that a cabinet write reaches: the one that a command names, or its page's (DEDUCED, log entry 74). -/
def hitDom (s : State) (h : CmdHit) : Nat :=
  if h.page = Pg.CHIP ∧ h.off = 0x040 then
    match h.v / 2 ^ 24 with
    | 0x01 => 0x1000
    | 0x02 => benchDom (bits (rg s Rg.CHIP_CMD_ARG0) 7 0)
    | 0x03 => benchDom (bits (rg s Rg.CHIP_CMD_ARG0) 15 8)
    | 0x04 => benchDom (bits (rg s Rg.CHIP_CMD_ARG0) 7 0)
    | 0x07 => bits (rg s Rg.CHIP_CMD_ARG0) 15 0
    | 0x0F => bits (rg s Rg.CHIP_CMD_ARG0) 15 0
    | _ => 0xFFFF
  else pageFenceDom (regCls h.page) (regInst h.page)

/-- An action of Plumb on domain `d`, the whole part for 0, which gives `s`: a command that reaches the domain in the same Plumb
cycle is refused with reason PLUMB (R18). -/
def plumbWins (d : Nat) (hit : Option CmdHit) (s : State) : State :=
  match hit with
  | none => s
  | some h => if manageable s && (d == 0 || domHolds d (hitDom s h)) then refuse h.page h.off rsPlumb h.v s else s

end Sys2Proof.Machine
end

