-- ==== Sys2Proof/Machine/Seal.lean ====
section
/-! DEFINITION. The step (chapter 13) and the seal collective (section 12.8): OPEN, RUN, CLOSE, tokens, decisions, and
resolution. -/

namespace Sys2Proof.Machine

/-! ### Tokens (R309 to R311) -/

/-- The member's own token (R310). -/
def ownToken (s : State) : Token :=
  { clean := s.cause = 0, origin := memberId s, epoch := (rg s (Rg.LKD_EPOCH 0)).toNat, step := s.stepNo, wsum := s.wsum,
    count := 1, cause := s.cause, first := if s.cause = 0 then none else some (memberId s) }

/-- The lower of two FIRST_VOID fields. -/
def firstVoid : Option Nat → Option Nat → Option Nat
  | none, b => b
  | some a, none => some a
  | some a, some b => some (min a b)

/-- A token with a child's token combined into it, on a member of epoch `e` in step `n` (R311). -/
def combine (e n : Nat) (t c : Token) : Token :=
  { t with
    clean := t.clean && c.clean && c.epoch == e && c.step == n
    wsum := t.wsum + c.wsum
    count := (t.count + c.count) % 2 ^ 32
    cause := t.cause ||| c.cause ||| (if c.epoch = e then 0 else 2 ^ 8) ||| (if c.step = n then 0 else 2 ^ 12)
    first := firstVoid t.first c.first }

/-- The member's token with those of its children that have arrived. -/
def combined (s : State) : Token :=
  s.childToks.foldl (fun t c => combine (rg s (Rg.LKD_EPOCH 0)).toNat s.stepNo t c.2) (ownToken s)

/-- The payload of a token (KIND 1) or a decision (KIND 2) (Table 12-6). -/
def tokenBytes (kind : Nat) (t : Token) : List Byte :=
  leBytes 4 (kind * 2 ^ 28 + b2n t.clean * 2 ^ 24 + t.origin % 2 ^ 14) ++ leBytes 4 t.epoch ++ leBytes 8 (t.step % 2 ^ 48)
    ++ leBytes 8 t.wsum.toNat ++ leBytes 4 t.count ++ leBytes 4 t.cause
    ++ leBytes 4 (match t.first with | some m => 2 ^ 31 + m % 2 ^ 14 | none => 0) ++ List.replicate 220 0

def tokenKind (bs : List Byte) : Nat := leNat (bs.take 4) / 2 ^ 28
/-- The token that a payload holds. -/
def tokenOf (bs : List Byte) : Token :=
  let at' (o n : Nat) : Nat := leNat ((bs.drop o).take n)
  { clean := at' 0 4 / 2 ^ 24 % 2 = 1, origin := at' 0 4 % 2 ^ 14, epoch := at' 4 4, step := at' 8 8 % 2 ^ 48,
    wsum := BitVec.ofNat 64 (at' 16 8), count := at' 24 4, cause := at' 28 4,
    first := if at' 32 4 / 2 ^ 31 = 1 then some (at' 32 4 % 2 ^ 14) else none }

/-- A SEAL flit is given to a context to send. -/
def sendSeal (kind : Nat) (t : Token) (s : State) (c : Nat) : State :=
  modFlow c (fun x => { x with txq := x.txq ++ [{ typ := .seal, last := false, pay := tokenBytes kind t, tkt := none }] }) s

/-- The context that leads to the parent; none at the root (Table 12-11). -/
def parentCtx (s : State) : Option Nat :=
  let r := rg s Rg.SEAL_CFG
  if bit r 31 then none else some (bits r 11 0)

def sealFlag (k : Nat) (s : State) : State := wrF Rg.SEAL_STAT k k 1 s

/-- Children whose tokens have arrived. -/
def childrenIn (s : State) : List Nat := (s.childToks.map (·.1)).eraseDups

/-! ### Decisions (R312 to R314) -/

/-- The SEAL_DEC registers take a decision. -/
def recordDec (t : Token) (s : State) : State :=
  let s := wrF Rg.SEAL_STAT 30 29 (2 + b2n t.clean) s
  let s := wr Rg.SEAL_DEC_CAUSE (word t.cause) (wr Rg.SEAL_DEC_COUNT (word t.count) s)
  let s := wr Rg.SEAL_DEC_FIRST (word (match t.first with | some m => 2 ^ 31 + m % 2 ^ 14 | none => 0)) s
  wr64 Rg.SEAL_DEC_STEP_LO (BitVec.ofNat 64 (t.step % 2 ^ 48)) (wr64 Rg.SEAL_DEC_WSUM_LO t.wsum s)

/-- The step ends as the decision says: a commit flips the armed regions and takes the step number; a void one gives the
decision's cause (R313, R325). -/
def endStep (t : Token) (s : State) : State :=
  if t.clean then
    let s := if s.stepSt = .close then writeDigests s else s
    let s := wr64 Rg.SEAL_LAST_COMMIT_LO (BitVec.ofNat 64 (2 ^ 63 + s.stepNo % 2 ^ 48)) (commitFlip s)
    stepEnded (raiseEv Pg.SEALU 0x023 0 0 { s with stepSt := .committed })
  else stepEnded (endVoid t.cause s)

/-- A decision recorded in the rest state, and not applied (Table 13-2). -/
def holdDec (t : Token) (s : State) : State :=
  raiseEv Pg.SEALU 0x026 0 0 (wrF Rg.SEAL_STEP_STAT 28 28 1 (recordDec t s))

/-- The copies of the commit table disagree at a commit (R345): no copy flips, EV-0x50C is written and Plumb drives rest,
which wins over the decision of the same tick (R352). -/
def mirrorFault (t : Token) (s : State) : State :=
  let s := enterRest 9 (raiseEv (Pg.JMC 0) 0x50C 0 0 s)
  if s.stepSt = .sealed then holdDec t s else s

/-- A decision is applied (R313): recorded, sent to the children `dests`, and the step ended. -/
def applyDec (t : Token) (dests : List Nat) (s : State) : State :=
  if t.clean && !tablesAgree s then mirrorFault t s
  else endStep t (dests.foldl (sendSeal 2 t) (raiseEv Pg.SEALU 0x321 (b2n t.clean) 0 (recordDec t s)))

/-- The root's decision on its finished token (R312). -/
def rootDec (t : Token) (s : State) : State :=
  let same := t.count = bits (rg s Rg.SEAL_DECL) 14 0
  applyDec { t with clean := t.clean && same, cause := if same then t.cause else t.cause ||| 2 ^ 9 } (childCtxs s) s

/-- A member that is not the root sends its finished token, or finds its parent's context not ACTIVE, and is SEALED
(R311). -/
def sendToken (p : Nat) (t : Token) (s : State) : State :=
  let s := { writeDigests s with stepSt := .sealed }
  if ctxValid s p ∧ ctxState s p = 1 then raiseEv Pg.SEALU 0x320 0 0 (sealFlag 31 (sendSeal 1 t s p)) else sealFlag 27 s

/-- The member finishes a token (R311). -/
def finish (t : Token) (s : State) : State :=
  match parentCtx s with
  | none => rootDec t s
  | some p => sendToken p t s

/-- The token is finished as soon as the step is in CLOSE and every child's token is in. -/
def tryFinish (s : State) : State :=
  if s.stepSt = .close ∧ (childCtxs s).all (fun c => s.childToks.any (·.1 = c)) = true then finish (combined s) s else s

/-! ### OPEN, RUN and CLOSE (R250, R292, R322 to R325) -/

/-- The registers that are cleared when a step enters OPEN. A bench in TEST takes no part in the step (R104), and its BENCH, PLANE
and SEQ pages keep what they hold. -/
def openClears (s : State) (a : Nat) : Bool :=
  let off := regOff a
  let cls := regCls a
  !((cls == 1 || cls == 2 || cls == 3) && inTest s (regInst a)) && match cls with
  | 0x01 => (0x200 ≤ off && off < 0x258) || (0x280 ≤ off && off < 0x29C) || (0x400 ≤ off && off < 0x600 && 8 ≤ off % 0x20)
  | 0x02 => [0x044, 0x048, 0x04C, 0x060, 0x064, 0x068, 0x06C, 0x070, 0x074, 0x078].contains off
  | 0x03 => [0x114, 0x120, 0x124, 0x128].contains off
  | 0x08 => [0x048, 0x04C, 0x050].contains off
  | 0x09 => off == 0x040
  | 0x0C => [0x05C, 0x060, 0x064, 0x068].contains off
  | 0x10 => [0x060, 0x064, 0x068, 0x070, 0x078].contains off
  | 0x11 => off == 0x04C
  | 0x12 => 0x040 ≤ off && off < 0x058
  | 0x14 => off == 0x04C || (0x054 ≤ off && off < 0x070) || off == 0x0C4
  | 0x18 => off == 0x070
  | 0x20 => off == 0x04C
  | _ => false

/-- A flow context when a step enters OPEN (R292): one with NOSTEP only starts its DISC and its digests again. -/
def openCtx (s : State) (c : Nat) : State :=
  let s := ctxSet c 7 15 0 0 (modFlow c (fun x => { x with digest := {} }) { s with outDig := spPut {} c {} s.outDig })
  if ctxNoStep s c then s
  else
    let s := resetSeqs c (bits (rg s Rg.TST_PRESET_SEQ) 15 0) (ctxSet c 5 15 0 s.stepNo s)
    armTimer c (ctxSet c 6 31 30 1 (dropRetry (· = c) false (modFlow c (fun x => { x with out := [], cumNew := false }) s)))

/-- A deadline miss (R250). -/
def deadlineMiss (s : State) : State :=
  raiseEv Pg.GAUGE 0x406 0 0 (satAdd Rg.GAU_DL_COUNT 1 (wr Rg.GAU_DL_STAT (word (0x80000000 + b2n s.frozen * 0x40000000)) s))

/-- The step number that the next OPEN opens. -/
def nextStep (s : State) : Nat := (rg64 s Rg.SEAL_STEP_NEXT_LO).toNat % 2 ^ 48

/-- Why an OPEN is refused (R322); SEAL_STEP_CUR is valid from the first OPEN since boot on. A chip whose map holds fewer than 128
benches in service is refused as RESUME refuses it (R13; DEDUCED, log entry 74). -/
def openBad (s : State) : List (Bool × Nat) :=
  [(stepHeld s, rsState), (s.chip != .ready && s.chip != .run, rsState), (bits (rg s Rg.PWR_STAT) 31 30 == 1, rsState),
   (!mapped128 s, rsState),
   ((serviceStreams s).any fun p => (str s p.1 p.2).state ≠ .stopped, rsState),
   (s.stepSt != .none && rg s (Rg.LKD_EPOCH 0) == rg s Rg.SEAL_OPEN_EPOCH && decide (nextStep s ≤ s.stepNo), rsState)]

/-- What an accepted OPEN does in its gauge tick (R322). -/
def openStep (s : State) : State :=
  let benches := s.benches.map fun e => (e.1, if inTest s e.1 then e.2 else { e.2 with tiles := [] })
  let s := resetRegs (openClears s) { s with
    stepNo := nextStep s, stepSt := .opened, cause := 0, wsum := 0, marks := [], childToks := [], benches := benches }
  let s := wr Rg.SEAL_OPEN_EPOCH (rg s (Rg.LKD_EPOCH 0)) s
  let s := raiseEv Pg.SEALU 0x020 0 0 ((validCtxs s).foldl openCtx s)
  let s := setChip .run s
  let dl := rg64 s Rg.GAU_DL_LO
  if dl ≠ 0 ∧ dl ≤ s.gauge then deadlineMiss s else s

/-- STEP_RUN (R323): the start mark, or the resume mark of a step loaded from a freeze image. A stream still STOPPED enters
FAULT and raises UNIT_TO. -/
def stepRun (s : State) : State :=
  if s.stepSt ≠ .opened then s
  else
    let res := bit (rg s Rg.SEAL_STEP_STAT) 27
    let mark := if res then Rg.HOLD_RESUME_MARK_LO else Rg.HOLD_START_MARK_LO
    let s := gaugeTo (rg64 s mark).toNat { s with stepSt := .run }
    let s := if res then wrF Rg.HOLD_FREEZE_STAT 29 29 0 (releaseHeld s) else s
    let s := (serviceStreams s).foldl (fun s p =>
      if (str s p.1 p.2).state = .stopped then syncFault p.1 syUnitTo 0x532 p.2 false 0 (str s p.1 p.2).pc s else s) s
    raiseEv Pg.SEALU 0x021 0 0 s
def execStepRun (s : State) : Out := .next (stepRun s)

/-- The step may enter CLOSE (R325): every stream of every logical bench is DONE or FAULT, and no ticket is outstanding; or
the compute domain has been fenced or reset in the step, and its tickets are drained or answered (Table 13-2). -/
def closeReady (s : State) : Bool :=
  let st (l : List StrState) : Bool := (serviceStreams s).all fun p => l.contains (str s p.1 p.2).state
  s.benches.all (fun e => e.2.tickets.isEmpty)
    && ((s.stepSt == .run && st [.done, .fault])
      || (stepLive s && s.stepSt != .close && (computeFenced s || (s.cause.testBit 7 && st [.stopped, .done, .fault]))))

/-- STEP_CLOSE (R325): the own token is formed, and finished when every child's token is in. -/
def stepClose (s : State) : State :=
  if closeReady s then
    let dl := rg64 s Rg.GAU_DL_LO
    let s := if bit (rg s Rg.GAU_DL_STAT) 31 then
        wrF Rg.GAU_DL_STAT 19 0 (min 0xFFFFF ((s.gauge.toNat - dl.toNat) / 1000)) s
      else s
    tryFinish (raiseEv Pg.SEALU 0x022 s.cause 0 { s with stepSt := .close })
  else s
def execStepClose (s : State) : Out := .next (stepClose s)

/-- STEP_DEADLINE (R250): the gauge reaches GAU_DL while the step is OPEN or RUN. -/
def stepDeadline (s : State) : State :=
  let dl := rg64 s Rg.GAU_DL_LO
  if dl ≠ 0 ∧ (s.stepSt = .opened ∨ s.stepSt = .run) ∧ bit (rg s Rg.GAU_DL_STAT) 31 = false then deadlineMiss (gaugeTo dl.toNat s)
  else s
def execStepDeadline (s : State) : Out := .next (stepDeadline s)

/-! ### Receiving tokens and decisions (R310, R311, R313) -/

/-- KIND of the SEAL flit that a spline hands on next. -/
def headKind (spl : Nat) (s : State) : Nat :=
  match (spline s spl).rxq with
  | (_, f) :: _ => tokenKind (payload f)
  | [] => 0

/-- A TOKEN, or a SEAL flit of a reserved kind, which is dropped. A token on a context without SEALC, and one that arrives
after the member has sent its own, are discarded and counted. -/
def deliverToken (f : Flit) (s : State) : State :=
  let c := f.flow
  if tokenKind (payload f) ≠ 1 then s
  else if ctxSealC s c = false then satAdd (Rg.FLOW_DISC_CTX (c / 64)) 1 s
  else if stepLive s then tryFinish { s with childToks := s.childToks ++ [(c, tokenOf (payload f))] }
  else satAdd (Rg.FLOW_DISC_STEP (c / 64)) 1 s

/-- SEAL_TOKEN_RECEIVE (R311). -/
def sealTokenReceive (spl : Nat) (s : State) : State :=
  if headKind spl s = 2 then s else takeFlit spl .seal deliverToken s
def execSealTokenReceive (spl : Nat) (s : State) : Out := .next (sealTokenReceive spl s)

/-- A decision from the parent (R313): discarded when it is of another epoch or step, or finds the step over; in the rest
state recorded only (Table 13-2). -/
def deliverDecision (f : Flit) (s : State) : State :=
  let t := tokenOf (payload f)
  if parentCtx s ≠ some f.flow then satAdd (Rg.FLOW_DISC_CTX (f.flow / 64)) 1 s
  else if stepHeld s = false ∨ t.epoch ≠ (rg s (Rg.LKD_EPOCH 0)).toNat ∨ t.step ≠ s.stepNo then
    raiseEv Pg.SEALU 0x321 (b2n t.clean) 1 s
  else if s.chip = .rest then holdDec t s
  else applyDec t (childCtxs s) s

/-- SEAL_DECISION_RECEIVE (R313). -/
def sealDecisionReceive (spl : Nat) (s : State) : State :=
  if headKind spl s = 2 then takeFlit spl .seal deliverDecision s else s
def execSealDecisionReceive (spl : Nat) (s : State) : Out := .next (sealDecisionReceive spl s)

/-- SEAL_CHILD_TIMEOUT (R311): SEAL_TO passes since CLOSE with a child's token missing. -/
def sealChildTimeout (s : State) : State :=
  if s.stepSt ≠ .close ∨ (childCtxs s).all (fun c => s.childToks.any (·.1 = c)) = true then s
  else
    let t := combined s
    finish { t with clean := false, cause := t.cause ||| 2 ^ 10 }
      (raiseEv Pg.SEALU 0x322 (childrenIn s).length 0 (sealFlag 28 s))
def execSealChildTimeout (s : State) : Out := .next (sealChildTimeout s)

/-- SEALED_TIMEOUT (R314): EV-0x323, and nothing else. -/
def sealedTimeout (s : State) : State :=
  if s.stepSt = .sealed ∧ bit (rg s Rg.SEAL_STAT) 30 = false then onceStep 0x323 (raiseEv Pg.SEALU 0x323 0 0) s else s
def execSealedTimeout (s : State) : Out := .next (sealedTimeout s)

/-! ### SEAL_STEP_CTL (Table 13-8) -/

/-- Why a resolution is refused (R330). -/
def resolveBad (s : State) : List (Bool × Nat) :=
  [(s.stepSt != .sealed, rsState), (s.chip == .rest, rsState),
   (decide ((rg64 s Rg.SEAL_RES_STEP_LO).toNat % 2 ^ 48 ≠ s.stepNo), rsValue),
   (rg s Rg.SEAL_RES_EPOCH != rg s (Rg.LKD_EPOCH 0), rsValue)]

/-- The decision of a resolution is applied (R330). -/
def resolve (commit : Bool) (s : State) : State :=
  let t : Token := { clean := commit, origin := memberId s, epoch := (rg s (Rg.LKD_EPOCH 0)).toNat, step := s.stepNo,
                     wsum := rg64 s Rg.SEAL_RES_WSUM_LO, count := 0, cause := 0, first := none }
  applyDec t ((childCtxs s).filter fun c => ctxState s c = 1)
    (raiseEv Pg.SEALU 0x025 (b2n commit) 0 (wrF Rg.SEAL_STEP_STAT 28 28 0 s))

/-- A write of SEAL_STEP_CTL. -/
def stepCtlWrite (v : Word) (s : State) : State :=
  let act (bad : State → List (Bool × Nat)) (f : State → State) : State :=
    match lowest (bad s) with
    | some r => refuse Pg.SEALU 0x0C0 r v.toNat s
    | none => f s
  match bits v 2 0 with
  | 0 => s
  | 1 => act openBad openStep
  | 2 => act resolveBad (resolve false)
  | 3 => act resolveBad (resolve true)
  | _ => refuse Pg.SEALU 0x0C0 rsValue v.toNat s

/-- OPEN (R322). -/
def execOpen (s : State) : Out := .next (pageCmd Pg.SEALU 0x0C0 1 (stepCtlWrite 1) s)
/-- RESOLVE_VOID (R330). -/
def execResolveVoid (s : State) : Out := .next (pageCmd Pg.SEALU 0x0C0 2 (stepCtlWrite 2) s)
/-- RESOLVE_COMMIT (R330). -/
def execResolveCommit (s : State) : Out := .next (pageCmd Pg.SEALU 0x0C0 3 (stepCtlWrite 3) s)

end Sys2Proof.Machine
end

