-- ==== Sys2Proof/Machine/Links.lean ====
section
/-! DEFINITION. Ramarn links (chapter 11) and the echo (section 10.7): cutting lists, the transmit gate, retry, receiving,
training, lanes, and keys. -/

namespace Sys2Proof.Machine

/-! ### Link states (Table 11-2) -/

def linkDown : Nat := 0
def linkTrain : Nat := 1
def linkEcho : Nat := 2
def linkUp : Nat := 3
def linkMuted : Nat := 4
def linkFault : Nat := 5

def linkState (s : State) (x : Nat) : Nat := bits (rg s (Rg.SPL_STAT x)) 31 29
def isUp (s : State) (x : Nat) : Bool := linkState s x = linkUp

/-- Splines of the chip, and the link die of a spline (R262, R446). -/
def splineEnd : Nat := 16
def splDie (x : Nat) : Nat := x / 8

/-- The link state changes, and with it the block state; in DOWN, MUTED and FAULT the lanes are idle (Table 11-2). -/
def setLink (x c : Nat) (s : State) : State :=
  let s := if c = linkTrain ∨ c = linkEcho ∨ c = linkUp then s else modSpline x (fun p => { p with wire := [] }) s
  setBlk (Pg.SPLINE x) ([0, 1, 1, 3, 4, 0].getD c 0) (wrF (Rg.SPL_STAT x) 31 29 c s)

/-- The spline is in training: it sends slots of kind TRAIN, which are not encrypted (R265, R282). -/
def isTraining (s : State) (x : Nat) : Bool := linkState s x = linkTrain || linkState s x = linkEcho

/-- Rest cause TX_GATE is active while a spline that the gate muted has been neither retrained nor MUTED (Table 14-4). -/
def gatePend (s : State) : State :=
  restPend 2 ((List.range splineEnd).any fun x =>
    linkState s x = linkFault && bits (rg s (Rg.SPL_STAT x)) 28 24 = 5) s

/-- A spline enters FAULT (Table 11-13). -/
def faultSpline (x cause : Nat) (s : State) : State :=
  raiseEv (Pg.SPLINE x) 0x302 cause 0 (setLink x linkFault (wrF (Rg.SPL_STAT x) 28 24 cause
    (modSpline x (fun p => { p with reports := [], echoAt := none, exch := [], swap := none }) s)))

/-! ### Gauge states (Table 10-2) -/

def gauFree : Nat := 0
def gauArmed : Nat := 1
def gauLocked : Nat := 2
def gauHoldover : Nat := 3
def gauDoubt : Nat := 4

def gauState (s : State) : Nat := bits (rg s Rg.GAU_STAT) 2 0
/-- The gauge is trusted (R242). -/
def gauTrusted (s : State) : Bool := gauState s = gauLocked || gauState s = gauHoldover

/-! ### Cutting lists (R272 to R274) -/

def entryAt (s : State) (x g : Nat) : Word :=
  match (spline s x).active with
  | some l => l.ents.getD (g / 8 % 512) 0
  | none => 0

/-- KIND of an entry (Table 11-8): 0 IDLE, 1 RESERVED, 2 OPEN, 3 FENCE. -/
def entKind (e : Word) : Nat := bits e 31 30
def entFlow (e : Word) : Nat := bits e 27 16

/-- An entry with a nonzero reserved field, or with a FLOW, MC or DST where it has none. -/
def entReserved (e : Word) : Bool :=
  decide (bits e 29 28 ≠ 0) || bit e 14 || (entKind e ≠ 1 && decide (bits e 27 0 ≠ 0))

/-- The first entry for which `p` holds. -/
def firstEnt (p : Word → Bool) (es : List Word) : Option Nat := es.findIdx? p

/-- Bytes of a cutting list image (R273). -/
def imageSize : Nat := 2112

/-- LOAD_ERR and ENTRY of an image for spline `x`, the lowest code first (R273). -/
def imageBad (x : Nat) (ue : Bool) (img : List Byte) : Option (Nat × Nat) :=
  let es := (chunks 4 512 img).map word
  let at' (o n : Nat) : Nat := leNat ((img.drop o).take n)
  if ue || at' 2056 4 != (crc32 (img.take 2056)).toNat then some (1, 0)
  else if at' 2052 1 ≠ x then some (2, 0)
  else match firstEnt (fun e => entKind e = 1 && (decide (3072 ≤ entFlow e) || dieOf (entFlow e) != splDie x)) es with
    | some k => some (3, k)
    | none =>
      if es.all fun e => entKind e ≠ 3 then some (4, 0)
      else match firstEnt entReserved es with
        | some k => some (5, k)
        | none => if at' 2053 3 ≠ 0 ∨ at' 2060 52 ≠ 0 then some (5, 0) else none

/-- CUT_CTL.LOAD (R273): the image becomes the pending list, or is refused. -/
def cutLoad (x : Nat) (s : State) : State :=
  let a := base48 s (Rg.CUT_IMG_LO x)
  let img := memBytes s a imageSize
  let ue := decide (memEnd s < a + imageSize) || rangeAny a imageSize (memUe s)
  let s := if memEnd s < a + imageSize then s else memUeReport a imageSize s
  match imageBad x ue img with
  | some (c, k) =>
    refuse (Pg.CUTLIST x) 0x040 rsValue 1 (raiseEv (Pg.CUTLIST x) 0x308 (c * 2 ^ 24 + k) 0
      (wrF (Rg.CUT_STAT x) 28 24 c (wrF (Rg.CUT_STAT x) 8 0 k s)))
  | none =>
    let id := leNat ((img.drop 2048).take 4)
    let s := modSpline x (fun p => { p with pend := some { id := id, ents := (chunks 4 512 img).map word } }) s
    wr (Rg.CUT_PEND_ID x) (word id)
      (wrF (Rg.CUT_STAT x) 30 30 1 (wrF (Rg.CUT_STAT x) 28 24 0 (wrF (Rg.CUT_STAT x) 8 0 0 s)))

/-- A mark at least one frame ahead of the gauge (R274, R283). -/
def markAhead (s : State) (lo : Nat) : Bool := decide (s.gauge.toNat + 4096 ≤ (rg64 s lo).toNat)

/-- Why a write of CUT_CTL is refused (R274, R287, Table 18-13). -/
def cutCtlBad (x : Nat) (v : Word) (s : State) : List (Bool × Nat) :=
  let st := rg s (Rg.CUT_STAT x)
  [(bit v 1 && !bit st 30, rsState), (bit v 1 && !markAhead s (Rg.CUT_MARK_LO x), rsState),
   (bit v 2 && bit st 29 && decide (rg64 s (Rg.CUT_MARK_LO x) ≤ s.gauge), rsState),
   (decide (1 < b2n (bit v 0) + b2n (bit v 1) + b2n (bit v 2)), rsValue)]

/-- A write of CUT_CTL. -/
def cutCtlWrite (x : Nat) (v : Word) (s : State) : State :=
  match lowest (cutCtlBad x v s) with
  | some r => refuse (Pg.CUTLIST x) 0x040 r v.toNat s
  | none =>
    if bit v 0 then cutLoad x s
    else if bit v 1 then wrF (Rg.CUT_STAT x) 29 29 1 s
    else if bit v 2 then wrF (Rg.CUT_STAT x) 29 29 0 s
    else s

/-- LOAD (R273). -/
def execLoad (x : Nat) (s : State) : Out := .next (pageCmd (Pg.CUTLIST x) 0x040 1 (cutCtlWrite x 1) s)
/-- ARM (R274). -/
def execArm (x : Nat) (s : State) : Out := .next (pageCmd (Pg.CUTLIST x) 0x040 2 (cutCtlWrite x 2) s)
/-- DISARM (R464). -/
def execDisarm (x : Nat) (s : State) : Out := .next (pageCmd (Pg.CUTLIST x) 0x040 4 (cutCtlWrite x 4) s)

/-- CUTLIST_ACTIVATE (R274): the mark is reached. -/
def cutlistActivate (x : Nat) (s : State) : State :=
  match bit (rg s (Rg.CUT_STAT x)) 29, (spline s x).pend with
  | true, some l =>
    let s := gaugeTo (rg64 s (Rg.CUT_MARK_LO x)).toNat s
    let gone := (spline s x).rbuf.length
    let up := isUp s x
    let s := modSpline x (fun p => { p with active := some l, pend := none, rbuf := [], needEcho := up, echoAt := none }) s
    let s := wr (Rg.CUT_ACT_ID x) (word l.id) (wr (Rg.CUT_PEND_ID x) 0 (satAdd (Rg.SPL_DROP x) gone s))
    voidBit 11 (raiseEv (Pg.CUTLIST x) 0x307 l.id 0 (wrF (Rg.CUT_STAT x) 31 29 4 s))
  | _, _ => s
def execCutlistActivate (x : Nat) (s : State) : Out := .next (cutlistActivate x s)

/-! ### Time of a slot (R253) -/

/-- The advance in force for the slot at `g`: a change of it waits for the frame boundary after it (R253). -/
def advAt (s : State) (x g : Nat) : Nat :=
  let a := bits (rg s (Rg.SPL_ECHO_ADV x)) 12 0
  match (spline s x).advWas with
  | some (old, f) => if g < f then old else a
  | none => a

/-- Time, in 0.1 ns, at which the first symbol of the slot at `g` leaves: A before its boundary. -/
def lead (s : State) (x g : Nat) : Nat := 10 * g - advAt s x g

/-- That time in gt. -/
def leaves (s : State) (x g : Nat) : Nat := lead s x g / 10

/-- What arrived at `t`, in 0.1 ns, is known at least 4 ns before the slot at `g` leaves (R278, R279). -/
def intime (s : State) (x g t : Nat) : Bool := decide (t + 40 ≤ lead s x g)

/-! ### What a slot carries (R275, R279, R302, Table 11-9) -/

/-- A context's flit with its header, as it leaves in the slot at `g`. -/
def flitOf (s : State) (g c : Nat) (t : TxFlit) : Flit :=
  { typ := t.typ, mc := ctxMc s c, last := t.last, flow := ctxPeer s c, dst := ctxDst s c,
    epoch := (rg s (ctxReg c 3)).toNat, step := if ctxNoStep s c then s.stepNo % 2 ^ 16 else ctxF s c 5 15 0,
    seq := ctxF s c 4 31 16, sg := g % 2 ^ 32, pay := t.pay }

/-- A flit sent in the slot at `g` for the first time takes a place in the retry buffer (R279). One that leaves after a NACK of its
flow that came too late for its slot is sent again with the flits before it. -/
def keepFlit (g c : Nat) (tkt : Option Nat) (f : Flit) (p : SplineSt) : SplineSt :=
  let w := p.rbuf.find? fun r => r.ctx = c && r.again
  { p with rbuf := p.rbuf ++ [{ flit := f, ctx := c, tkt := tkt, slot := g, sends := 1, again := w.isSome, acked := false,
                                since := (w.map (·.since)).getD 0 }] }

/-- A context's flit is sent for the first time: it takes the next SEQ, its credit, and a place in the retry buffer. -/
def sendNew (x g c : Nat) (t : TxFlit) (s : State) : Flit × State :=
  let f := flitOf s g c t
  let s := ctxSet c 4 31 16 (f.seq + 1) s
  let s := if bearsCredit t.typ && !f.mc then
      let was := ctxWaits s c
      let s := modFlow c (fun y => { y with out := y.out ++ [f.seq] }) s
      let s := ctxSet c 5 23 16 (flow s c).out.length s
      if was then s else armTimer c s
    else s
  (f, modSpline x (keepFlit g c t.tkt f) s)

/-- The first `n` waiting retransmissions that `p` names, with new short gauges; and the buffer after them. -/
def takeAgain (g : Nat) (p : RetryFlit → Bool) : Nat → List RetryFlit → List Flit × List RetryFlit
  | _, [] => ([], [])
  | 0, l => ([], l)
  | n + 1, r :: l =>
    if r.again && p r then
      let f := { r.flit with sg := g % 2 ^ 32 }
      let q := takeAgain g p n l
      (f :: q.1, { r with flit := f, slot := g, sends := r.sends + 1, again := false, acked := false } :: q.2)
    else
      let q := takeAgain g p (n + 1) l
      (q.1, r :: q.2)

def resend (x g n : Nat) (p : RetryFlit → Bool) (s : State) : List Flit × State :=
  let q := takeAgain g (fun r => p r && intime s x g r.since) n (spline s x).rbuf
  (q.1, satAdd (Rg.SPL_RETRY x) q.1.length (modSpline x (fun y => { y with rbuf := q.2 }) s))

/-- The first flit of a queue that `p` admits, and the queue without it. -/
def pull (p : TxFlit → Bool) : List TxFlit → Option (TxFlit × List TxFlit)
  | [] => none
  | t :: l => if p t then some (t, l) else (pull p l).map fun q => (q.1, t :: q.2)

/-- A FACK or CREDIT payload (Table 12-4). -/
def ackBytes (es : List (Nat × TktStatus)) (cum : Nat) : List Byte :=
  leBytes 2 es.length ++ leBytes 2 cum ++ (es.flatMap fun e => leBytes 4 (e.1 % 2 ^ 13 * 2 ^ 19 + statusCode e.2 * 2 ^ 15))
    ++ List.replicate (252 - 4 * es.length) 0

/-- The next SEAL, FACK or CREDIT flit of a context (R297, R302). -/
def pickControl (c : Nat) (s : State) : Option (TxFlit × State) :=
  let y := flow s c
  match pull (fun t => t.typ = .seal) y.txq with
  | some (t, l) => some (t, modFlow c (fun y => { y with txq := l }) s)
  | none =>
    if y.acks.isEmpty && !y.cumNew then none
    else
      let es := y.acks.take 62
      some ({ typ := if es.isEmpty then .credit else .fack, last := false, pay := ackBytes es y.cum, tkt := none },
        modFlow c (fun y => { y with acks := y.acks.drop 62, cumNew := false }) s)

/-- The next other flit of a context: a credit-bearing one of a unicast flow only while CRED_OUT < CRED_MAX (R301). -/
def pickOther (c : Nat) (s : State) : Option (TxFlit × State) :=
  let y := flow s c
  let room := ctxMc s c || decide (y.out.length < ctxF s c 5 31 24)
  match pull (fun t => t.typ ≠ .seal && (!bearsCredit t.typ || room)) y.txq with
  | some (t, l) => some (t, modFlow c (fun y => { y with txq := l }) s)
  | none => none

/-- At most `n` new flits of context `c`: none while a retransmission of the flow that this slot knows of waits, or while the retry buffer is full
(R279). -/
def fillCtx (x g c : Nat) (pick : Nat → State → Option (TxFlit × State)) : Nat → State → List Flit × State
  | 0, s => ([], s)
  | n + 1, s =>
    if decide (64 ≤ (spline s x).rbuf.length) || (spline s x).rbuf.any fun r => r.ctx = c && r.again && intime s x g r.since then ([], s)
    else match pick c s with
      | none => ([], s)
      | some (t, s1) =>
        let f := sendNew x g c t s1
        let q := fillCtx x g c pick n f.2
        (f.1 :: q.1, q.2)

/-- The flits of contexts in turn, up to `n` in all. -/
def fillCtxs (x g n : Nat) (pick : Nat → State → Option (TxFlit × State)) (cs : List Nat) (r : List Flit × State) :
    List Flit × State :=
  cs.foldl (fun r c =>
    let q := fillCtx x g c pick (n - r.1.length) r.2
    (r.1 ++ q.1, q.2)) r

/-- A valid context that sends. -/
def ctxSends (s : State) (c : Nat) : Bool := ctxValid s c && ctxPeer s c != 0xFFF

/-- The flits of a RESERVED slot of context `c`. -/
def reservedFlits (x g c : Nat) (s : State) : List Flit × State :=
  let r := resend x g 5 (fun r => r.ctx = c) s
  if ctxSends s c then fillCtxs x g 5 pickOther [c] (fillCtxs x g 5 pickControl [c] r) else r

/-- Contexts of a spline's link die that no active entry names: they send in OPEN slots; a multicast one sends new flits in
RESERVED slots only (R301, R302). -/
def openCtxs (x : Nat) (s : State) : List Nat :=
  let named := s.splines.flatMap fun e => match e.2.active with
    | some l => l.ents.filterMap fun w => if entKind w = 1 then some (entFlow w) else none
    | none => []
  (validCtxs s).filter fun c => dieOf c = splDie x && ctxSends s c && !ctxMc s c && !named.contains c

/-- The flits of an OPEN slot, one for each open credit. -/
def openFlits (x g : Nat) (s : State) : List Flit × State :=
  let n := min 5 (spline s x).openCred
  let cs := openCtxs x s
  let r := fillCtxs x g n pickOther cs (fillCtxs x g n pickControl cs (resend x g n (fun _ => true) s))
  (r.1, modSpline x (fun p => { p with openCred := p.openCred - r.1.length }) r.2)

/-- A spline sends rest content (Table 11-9): in the rest state, and in NAP (R431). -/
def restContent (s : State) : Bool := s.chip = .rest || s.chip = .nap

/-- Echo flits belong to no context. -/
def echoCtx : Nat := 4096

/-- The echo exchange of the spline is due in the slot at `g` (R252, R274): the first FENCE slot after a telemetry mark, or the
first after a change of list. -/
def echoDue (s : State) (x g : Nat) : Bool :=
  let p := spline s x
  p.echoAt.isNone && entKind (entryAt s x g) == 3 && (p.needEcho ||
    match p.active.bind fun l => firstEnt (fun e => entKind e = 3) l.ents with
    | some n => g % 2 ^ 20 == 8 * n
    | none => false)

/-- An echo flit (Tables 11-5 and 11-7). -/
def echoFlit (s : State) (x g : Nat) (t : FlitType) (pay : List Byte) : Flit :=
  { typ := t, epoch := (rg s (Rg.LKD_EPOCH (splDie x))).toNat, step := s.stepNo % 2 ^ 16, sg := g % 2 ^ 32, pay := pay }

/-- ECHO_REQ (Table 11-7). -/
def echoRequest (s : State) (x g : Nat) : Flit := echoFlit s x g .echoReq (leBytes 2 x ++ List.replicate 254 0)

/-- The echo flits of a FENCE or TRAIN slot: the spline's own request, if `own`, its first symbol at `ttx`, and in back-to-back
mode the answer to the peer's. -/
def echoFlits (x g ttx : Nat) (own : Bool) (s : State) : List Flit × State :=
  let s0 := s
  let room := decide ((spline s x).rbuf.length < 64)
  let r := if own && room then
      let f := echoRequest s0 x g
      ([f], modSpline x (fun p => keepFlit g echoCtx none f { p with echoAt := some ttx }) s)
    else ([], s)
  match (spline s0 x).echoRep with
  | some f =>
    if decide (64 ≤ (spline r.2 x).rbuf.length) then r
    else
      let f := echoFlit s0 x g .echoRep f.pay
      (r.1 ++ [f], modSpline x (fun p => keepFlit g echoCtx none f { p with echoRep := none }) r.2)
  | none => r

/-- The kind and flits of a slot with entry `e` (Table 11-9); `ttx` is the time of its first symbol. In the rest state it carries none; while a lane swap is in
progress every position is EMPTY (R267), and until the echo of a new list has returned only IDLE slots are sent (R274). -/
def slotContent (x g ttx : Nat) (e : Word) (s : State) : SlotKind × List Flit × State :=
  let sp := spline s x
  if sp.needEcho && entKind e != 3 then (.idle, [], s)
  else match entKind e with
    | 1 =>
      if restContent s then (.withdrawn, [], s)
      else if sp.swap.isSome then (.data, [], s)
      else
        let r := reservedFlits x g (entFlow e) s
        (.data, r.1, r.2)
    | 2 =>
      if restContent s then (.idle, [], s)
      else if sp.swap.isSome then (.data, [], s)
      else
        let r := openFlits x g s
        (.data, r.1, r.2)
    | 3 =>
      if sp.swap.isSome then (.data, [], s)
      else
        let r := echoFlits x g ttx (echoDue s x g) s
        (.data, r.1, r.2)
    | _ => (.idle, [], s)

/-- The slot's flits agree with its entry (R275). -/
def contentOk (x : Nat) (e : Word) (fs : List Flit) : Bool :=
  match entKind e with
  | 1 => fs.isEmpty || (dieOf (entFlow e) == splDie x && fs.all fun f => f.mc == bit e 15 && f.dst == bits e 13 0)
  | _ => true

/-- What the transmit gate asks of the gauge and the spline (R275). -/
def gateOpen (s : State) (x : Nat) : Bool :=
  gauTrusted s && isUp s x && bit (rg s (Rg.SPL_ECHO_ADV x)) 31 && !bit (rg s (Rg.SPL_ECHO_STAT x)) 31

/-- The physical lane of each logical lane in the slot at `g` (R262, R267): a swap is taken at its frame boundary. -/
def laneMapAt (s : State) (x g : Nat) : List Nat :=
  (List.range 8).map fun j => match (spline s x).swap with
    | some (k, y) => if k = j ∧ (spline s x).swapAt ≤ g then y else bits (rg s (Rg.SPL_LANE_MAP x)) (4 * j + 3) (4 * j)
    | none => bits (rg s (Rg.SPL_LANE_MAP x)) (4 * j + 3) (4 * j)

/-- The key and IV of the slot at `g` (R282, R283), sent or received: none outside UP, whose slots alone are encrypted. The peer of
a back-to-back spline sends as a member does, from the spline that its echo replies name. Keys lie in memory order (log entry 76). -/
def slotKey (s : State) (x g : Nat) (received : Bool) : Option (List Byte × List Byte) :=
  let b2b := bit (rg s (Rg.SPL_CTL x)) 27
  let ks := (spline s x).keys
  if isUp s x then
    some (((if received then ks.drop 8 else ks.take 8).flatMap fun w => leBytes 4 w.toNat),
      slotIv (if received && b2b then bits (rg s (Rg.SPL_PEER x)) 7 0 else x) (received && !b2b) g)
  else none

/-- A slot leaves (R278, R279): with the first report that it is in time for, on the lanes as its bytes. A switch reports every
slot, a back-to-back peer those of kind DATA. -/
def putSlot (x g : Nat) (k : SlotKind) (fs : List Flit) (s : State) : State :=
  let b2b := bit (rg s (Rg.SPL_CTL x)) 27
  let p := spline s x
  let rep := p.reports.head?.filter fun r => intime s x g r.2.2
  let t : Slot := { g := g, kind := k, ack := rep.map fun r => (r.1, r.2.1), swap := p.swap, cred := if b2b then 5 else 0, flits := fs }
  modSpline x (fun p => { p with
    reports := if rep.isSome then p.reports.drop 1 else p.reports,
    unrep := if isUp s x && (k = .data || !b2b) then p.unrep ++ [g] else p.unrep,
    lastTx := some t, wire := physLanes (laneMapAt s x g) (slotBytes (slotKey s x g false) t) }) s

/-- Slots follow one another. -/
def slotNew (s : State) (x g : Nat) : Bool :=
  g % 8 = 0 && match (spline s x).lastTx with
    | some l => decide (l.g < g)
    | none => true

/-- A TRAIN slot leaves, after the knock if one is sent (R265, R284), with the echo flits it carries. -/
def trainSlot (x g ttx : Nat) (own : Bool) (s : State) : State :=
  if g < (spline s x).knockEnd then s
  else
    let s := gaugeTo g s
    let r := echoFlits x g ttx own s
    putSlot x g .train r.1 r.2

/-- A flit of a multicast operation has been acknowledged: the operation ends with its last one (R305). -/
def mcAcked (s : State) (r : RetryFlit) : State :=
  match r.flit.mc, r.tkt with
  | true, some t =>
    match (flow s r.ctx).ops.find? (·.tkt = t) with
    | some op =>
      if op.left ≤ 1 then
        let s := endRemote r.ctx op.tkt op.addr op.rows op.mstride .ok
          (modFlow r.ctx (fun y => { y with ops := y.ops.filter (·.tkt ≠ t) }) s)
        if ctxWaits s r.ctx then s else armTimer r.ctx s
      else modFlow r.ctx (fun y => { y with ops := y.ops.map fun o => if o.tkt = t then { o with left := o.left - 1 } else o }) s
    | none => s
  | _, _ => s

/-- In a replay outgoing flits go no further than the link die, which forms their digests (R47). -/
def replaySlot (x g : Nat) (s : State) : State :=
  let s := (slotContent x g (lead s x g) (entryAt s x g) (gaugeTo (leaves s x g) s)).2.2
  let out := (spline s x).rbuf.filter fun r => r.slot = g && r.ctx ≠ echoCtx
  let s := out.foldl (fun s r => { s with outDig := spPut {} r.ctx (digestFlit r.flit (spGet {} r.ctx s.outDig)) s.outDig }) s
  out.foldl mcAcked (modSpline x (fun p => { p with
    rbuf := [], lastTx := some { g := g, kind := .idle, ack := none, swap := none, cred := 0, flits := [] } }) s)

/-- The slot at `g` of an UP spline, its first symbol at `ttx` (R275, R276): the gate's checker blocks one that breaks a rule of
R275, by its content or by a `fault` that the checker sees. -/
def sendSlot (x g ttx : Nat) (fault : Bool) (s : State) : State :=
  let s := gaugeTo (leaves s x g) s
  let e := entryAt s x g
  let r := slotContent x g ttx e s
  if gateOpen s x && !fault && contentOk x e r.2.1 then putSlot x g r.1 r.2.1 r.2.2
  else
    let s := raiseEv (Pg.SPLINE x) 0x305 (g / 8 % 512) 0 (faultSpline x 5 (putSlot x g .idle [] s))
    enterRest 2 s

/-- SLOT_TRANSMIT (R275, R276): the slot at `g` leaves spline `x`. -/
def slotTransmit (x g : Nat) (fault : Bool) (s : State) : State :=
  if slotNew s x g = false then s
  else if s.replay then replaySlot x g s
  else if isTraining s x then trainSlot x g (10 * g) false s
  else if isUp s x then sendSlot x g (lead s x g) fault s
  else s
def execSlotTransmit (x g : Nat) (fault : Bool) (s : State) : Out := .next (slotTransmit x g fault s)

/-! ### Acknowledgement and retry (R278 to R280) -/

/-- ACK_REF of the slot at `g`. -/
def ackRef (g : Nat) : Nat := g / 8 % 2 ^ 18

/-- The flits that may be released: acknowledged, with every flit of their flow before them acknowledged too (R279). -/
def released (l : List RetryFlit) : List RetryFlit :=
  l.filter fun r => (l.takeWhile (· ≠ r)).all (fun q => q.ctx ≠ r.ctx || q.acked) && r.acked

def releaseFlits (x : Nat) (s : State) : State :=
  let out := released (spline s x).rbuf
  out.foldl mcAcked (modSpline x (fun p => { p with rbuf := p.rbuf.filter fun r => !out.contains r }) s)

/-- The slots that an ACK names are acknowledged; a flit that waits for retransmission is not (R279). -/
def ackSlot (x ref : Nat) (s : State) : State :=
  releaseFlits x (modSpline x (fun p => { p with
    unrep := p.unrep.filter fun g => ackRef g ≠ ref
    rbuf := p.rbuf.map fun r => if ackRef r.slot = ref ∧ r.again = false then { r with acked := true } else r }) s)

/-- A multicast operation one of whose flits was dropped completes with TIMEOUT (R305). -/
def mcDropped (s : State) (r : RetryFlit) : State :=
  match r.flit.mc, r.tkt with
  | true, some t =>
    match (flow s r.ctx).ops.find? (·.tkt = t) with
    | some op => endRemote r.ctx op.tkt op.addr op.rows op.mstride .timeout
        (modFlow r.ctx (fun y => { y with ops := y.ops.filter (·.tkt ≠ t), txq := y.txq.filter (·.tkt ≠ some t) }) s)
    | none => s
  | _, _ => s

/-- A NACKed flit waits for retransmission from `t` on. -/
def RetryFlit.nacked (t : Nat) (r : RetryFlit) : RetryFlit :=
  { r with again := true, acked := false, since := if r.again then r.since else t }

/-- The flits of the flow of context `c` that a NACK of the slot at `g` concerns, which arrives at `t`, wait for retransmission; when one of them has
been sent eight times, it is dropped with every later one of its flow (R280). -/
def nackFlow (x g t : Nat) (s : State) (c : Nat) : State :=
  let mine (r : RetryFlit) : Bool := r.ctx = c && decide (g ≤ r.slot)
  let l := (spline s x).rbuf
  match (l.filter mine).find? (fun r => decide (8 ≤ r.sends) && !r.again) with
  | none => modSpline x (fun p => { p with
      rbuf := p.rbuf.map fun r => if mine r then r.nacked t else r }) s
  | some d =>
    let keep := l.takeWhile (· ≠ d) ++ (l.dropWhile (· ≠ d)).filter fun r => r.ctx ≠ c
    let gone := (l.dropWhile (· ≠ d)).filter fun r => r.ctx = c
    let s := modSpline x (fun p => { p with
      rbuf := keep.map fun r => if mine r then r.nacked t else r }) s
    gone.foldl mcDropped (raiseEv (Pg.SPLINE x) 0x309 c d.flit.seq (satAdd (Rg.SPL_DROP x) gone.length s))

/-- A slot counts as NACKed from `t` on (R279). An echo flit in it belongs to no flow, and is not sent again (log entry 79). -/
def nackSlot (x ref t : Nat) (s : State) : State :=
  let hit := (spline s x).rbuf.filter fun r => ackRef r.slot = ref && !r.again && !r.acked
  let s := satAdd (Rg.SPL_NACK x) 1 (modSpline x (fun p => { p with
    unrep := p.unrep.filter fun g => ackRef g ≠ ref
    rbuf := p.rbuf.filter fun r => !(r.ctx = echoCtx && ackRef r.slot = ref) }) s)
  ((hit.map (·.ctx)).eraseDups.filter (· ≠ echoCtx)).foldl (fun s c =>
    match hit.find? (·.ctx = c) with
    | some r => nackFlow x r.slot t s c
    | none => s) s

/-- ACK_TIMEOUT (R279): no report of the slot at `g` arrives within 32 slots of its boundary. -/
def ackTimeout (x g : Nat) (s : State) : State :=
  if (spline s x).unrep.contains g then nackSlot x (ackRef g) (10 * (g + 256)) (gaugeTo (g + 256) s) else s
def execAckTimeout (x g : Nat) (s : State) : Out := .next (ackTimeout x g s)

/-! ### Receiving (R278, R281, R285) -/

/-- A tag failure with every CRC valid (R278): sixteen in a telemetry interval are a fault. -/
def tagFail (x : Nat) (s : State) : State :=
  let iv := s.gauge.toNat / 2 ^ 20
  let n := if (spline s x).tagIv = iv then (spline s x).tagFails + 1 else 1
  let s := modSpline x (fun p => { p with tagIv := iv, tagFails := n }) s
  let s := raiseEv (Pg.SPLINE x) 0x30B 0 0 (satAdd (Rg.SPL_AUTH_ERR x) 1 s)
  if n = 16 then faultSpline x 7 s else s

/-- One flit of an accepted slot (Table 11-10, check 2): reserved types are counted, echo replies consumed, and echo requests
accepted in back-to-back mode only. -/
def takeIn (x g : Nat) (s : State) (f : Flit) : State :=
  match f.typ with
  | .other => satAdd (Rg.SPL_RX_REJ x) 1 s
  | .echoRep => s
  | .echoReq => if bit (rg s (Rg.SPL_CTL x)) 27 then modSpline x (fun p => { p with rxq := p.rxq ++ [(g, f)] }) s else s
  | _ => modSpline x (fun p => { p with rxq := p.rxq ++ [(g, f)] }) s

/-- The member's report of a received DATA slot whose preamble is valid (R278). -/
def report (x : Nat) (r : RxSlot) (ok : Bool) (s : State) : State :=
  if r.kind = .data ∧ r.preOk = true then modSpline x (fun p => { p with reports := p.reports ++ [(r.ref, ok, r.arr + 80)] }) s
  else s

/-- A flit that arrives in NAP (Table 17-6): after checks 2 and 3 it is discarded and counted, and is a wake. -/
def napFlit (x : Nat) (s : State) (f : Flit) : State :=
  match f.typ with
  | .other => satAdd (Rg.SPL_RX_REJ x) 1 s
  | .echoReq => s
  | .echoRep => s
  | _ => if destOk s f then wake 0 (satAdd (Rg.SPL_STALE x) 1 s) else misrouted x f s

/-- The flits of an accepted slot (R281); those for the member are a wake (R432). -/
def takeFlits (x g : Nat) (fs : List Flit) (s : State) : State :=
  if s.chip = .nap then fs.foldl (napFlit x) s
  else
    let mine := fs.filter fun f => f.typ ≠ .echoReq && f.typ ≠ .echoRep && destOk s f
    fs.foldl (takeIn x g) (if mine.isEmpty then s else wake 0 s)

/-- A slot arrives (R278). In training only echo requests are taken from it; in a replay it is a captured one, which no line has
carried (R47). -/
def slotTake (x : Nat) (r : RxSlot) (s : State) : State :=
  if s.replay then takeFlits x r.g r.flits (gaugeTo r.g s)
  else if isTraining s x then
    (if r.preOk = true ∧ r.flitsOk = true then (r.flits.filter (·.typ = .echoReq)).foldl (takeIn x r.g) s else s)
  else if isUp s x = false then s
  else
    let s := gaugeTo ((r.arr + 80) / 10) s
    if r.preOk && r.flitsOk && r.tagOk then
      let s := modSpline x (fun p => { p with openCred := p.openCred + r.cred }) (report x r true s)
      let s := match r.rep with
        | some (k, true) => ackSlot x k s
        | some (k, false) => nackSlot x k (r.arr + 11) s
        | none => s
      takeFlits x r.g r.flits s
    else
      let s := report x r false (satAdd (Rg.SPL_RX_REJ x) 1 s)
      if r.preOk && r.flitsOk then tagFail x s else s

/-- The slot at `g` as the spline reads it from its nine physical lanes, its first symbol `delay` tenths of a gt after its
boundary. -/
def rxSlot (s : State) (x g delay : Nat) (lanes : List (List Nat)) : RxSlot :=
  readSlot (if s.replay then none else slotKey s x g true) g (10 * g + delay) (lanesBytes (laneMapAt s x g) lanes)

/-- SLOT_RECEIVE (R278). -/
def slotReceive (x g delay : Nat) (lanes : List (List Nat)) (s : State) : State := slotTake x (rxSlot s x g delay lanes) s
def execSlotReceive (x g : Nat) (s : State) (delay : Nat := 0) (lanes : List (List Nat) := []) : Out := .next (slotReceive x g delay lanes s)

/-- ECHO_REQ_RECEIVE (R285): in back-to-back mode a request is answered as a switch would, in the next FENCE or TRAIN slot. The hold
time h of the reply is the part's own, and no rule states it: a free value. -/
def echoReqReceive (x : Nat) (s : State) : State :=
  match (spline s x).rxq with
  | (g, f) :: rest =>
    if f.typ ≠ .echoReq then s
    else
      let h := takeFree s
      let pay := leBytes 4 (h.1.toNat % 2 ^ 32) ++ leBytes 4 (g % 2 ^ 32) ++ leBytes 4 (rg s (Rg.CUT_ACT_ID x)).toNat
        ++ leBytes 2 (memberId s) ++ leBytes 2 x ++ List.replicate 240 0
      modSpline x (fun p => { p with rxq := rest, echoRep := some { typ := .echoRep, pay := pay } }) h.2
  | [] => s
def execEchoReqReceive (x : Nat) (s : State) : Out := .next (echoReqReceive x s)

/-! ### The echo (R251 to R254) -/

/-- The request's first symbol leaves within its slot. -/
def inSlot (s : State) (x g ttx : Nat) : Bool := decide (lead s x g ≤ ttx ∧ ttx < lead s x g + 80)

/-- ECHO_EXCHANGE (R252): the spline sends an echo request in the slot at `g`, its first symbol at `ttx` in 0.1 ns: in training in
a TRAIN slot, eight times, the first exchange being the entry to ECHO; in service in the FENCE slot in which it is due. -/
def echoExchange (x g ttx : Nat) (s : State) : State :=
  if slotNew s x g = false ∨ inSlot s x g ttx = false then s
  else if isTraining s x then
    (if (spline s x).echoAt.isSome ∨ 8 ≤ (spline s x).exch.length ∨ g < (spline s x).knockEnd then s
    else trainSlot x g ttx true (setLink x linkEcho s))
  else if isUp s x && gateOpen s x && echoDue s x g && (spline s x).swap.isNone then sendSlot x g ttx false s
  else s
def execEchoExchange (x g ttx : Nat) (s : State) : Out := .next (echoExchange x g ttx s)

/-- SPL_ECHO_ASYM, s9 in 0.1 ns. -/
def echoAsym (s : State) (x : Nat) : Int := toSigned 9 (bits (rg s (Rg.SPL_ECHO_ASYM x)) 8 0)

/-- The transmit delay of R251, in 0.1 ns, a tie rounded up. -/
def echoDelay (asym : Int) (ttx trx h : Nat) : Int := ((trx : Int) - ttx - h + asym + 1) / 2

/-- The switch's short gauge differs from t_tx + d by more than 100 ns (R254). -/
def gaugeDiff (s : State) (ttx sg : Nat) (d : Int) : Bool :=
  let m : Int := 10 * 2 ^ 64
  let e := (10 * (sgExpand sg s.gauge.toNat : Int) - (ttx + d)) % m
  decide (1000 < e ∧ 1000 < m - e)

/-- ECHO_FAULT (R254). -/
def echoFault (x cause : Nat) (s : State) : State :=
  faultSpline x 3 (raiseEv (Pg.SPLINE x) 0x408 cause 0
    (wrF (Rg.SPL_ECHO_STAT x) 31 28 (8 + cause) s))

/-- An excursion, or no reply: four in a row are a fault (Table 10-4). -/
def excursion (x cause : Nat) (s : State) : State :=
  let n := bits (rg s (Rg.SPL_ECHO_STAT x)) 2 0 + 1
  let s := wrF (Rg.SPL_ECHO_STAT x) 2 0 n (satAdd (Rg.SPL_ECHO_EXC x) 1 s)
  let s := raiseEv (Pg.SPLINE x) 0x407 0 0 s
  if n = 4 then echoFault x cause s else s

/-- SPL_ECHO_LAST: the result and d of an exchange. -/
def echoLast (x res : Nat) (d : Int) (s : State) : State :=
  wrF (Rg.SPL_ECHO_LAST x) 31 30 res (wrF (Rg.SPL_ECHO_LAST x) 12 0 (ofSigned 13 d) s)

/-- An in-service exchange is judged against A (Table 10-4, R254). -/
def judgeEcho (x : Nat) (m : EchoMeas) (s : State) : State :=
  let a : Int := bits (rg s (Rg.SPL_ECHO_ADV x)) 12 0
  let d := echoDelay (echoAsym s x) m.ttx m.trx m.h
  let e := (d - a).natAbs
  if d < 0 ∨ 8191 < d then echoFault x 3 (echoLast x 2 d s)
  else if 10 < e then echoFault x 1 (echoLast x 2 d s)
  else if gaugeDiff s m.ttx m.sg d then echoFault x 4 (echoLast x 2 d s)
  else if 2 < e then excursion x 2 (echoLast x 1 d s)
  else
    let b := if a < d then a + 1 else if d < a then a - 1 else a
    let f := (s.gauge.toNat / 4096 + 1) * 4096
    let s := if b = a then s else modSpline x (fun p => { p with advWas := some (advAt s x s.gauge.toNat, f) }) s
    wrF (Rg.SPL_ECHO_ADV x) 12 0 b.toNat (wrF (Rg.SPL_ECHO_STAT x) 2 0 0 (echoLast x 0 d s))

/-- What an echo reply tells of the switch (R265). -/
def peerOf (x : Nat) (m : EchoMeas) (s : State) : State :=
  wr (Rg.SPL_SCHED x) (word m.sched) (wr (Rg.SPL_PEER x) (word (m.swId % 2 ^ 16 * 2 ^ 16 + m.port % 2 ^ 8)) s)

/-- 4 µs pass since t_tx without a reply (R251). In training the exchange is made again. -/
def noReply (x t : Nat) (s : State) : State :=
  let s := gaugeTo (t / 10 + 4000) (modSpline x (fun p => { p with echoAt := none }) s)
  if isTraining s x then s
  else
    let s := wrF (Rg.SPL_ECHO_LAST x) 31 30 1 s
    if (spline s x).needEcho then faultSpline x 4 s else excursion x 5 s

/-- An exchange of a training (R252, R254). -/
def trainEcho (x : Nat) (m : EchoMeas) (s : State) : State :=
  let d := echoDelay (echoAsym s x) m.ttx m.trx m.h
  if gaugeDiff s m.ttx m.sg d then echoFault x 4 (echoLast x 2 d s)
  else echoLast x 0 d (modSpline x (fun p => { p with exch := p.exch ++ [m] }) s)

/-- An exchange in service. After an activation it must return the schedule identity of the active list (R274). -/
def serviceEcho (x : Nat) (m : EchoMeas) (s : State) : State :=
  let s := if (spline s x).needEcho then
      (if word m.sched = rg s (Rg.CUT_ACT_ID x) then modSpline x (fun p => { p with needEcho := false }) s
      else faultSpline x 4 s)
    else s
  if isUp s x then judgeEcho x m s else s

/-- ECHO_REPLY (R251, R253): the reply of the exchange in progress, the request's time being the spline's own. One that comes more
than 4 µs after it counts as no reply. -/
def echoReply (x : Nat) (m : EchoMeas) (s : State) : State :=
  match (spline s x).echoAt with
  | some t =>
    if isUp s x = false ∧ isTraining s x = false then s
    else if t + 40000 < m.trx then noReply x t s
    else
      let s := gaugeTo (m.trx / 10) s
      let s := peerOf x m (modSpline x (fun p => { p with echoAt := none }) s)
      if isTraining s x then trainEcho x { m with ttx := t } s else serviceEcho x { m with ttx := t } s
  | none => s
def execEchoReply (x : Nat) (m : EchoMeas) (s : State) : Out := .next (echoReply x m s)

/-- ECHO_NO_REPLY (R251). -/
def echoNoReply (x : Nat) (s : State) : State :=
  match (spline s x).echoAt with
  | some t => noReply x t s
  | none => s
def execEchoNoReply (x : Nat) (s : State) : Out := .next (echoNoReply x s)

/-! ### Training and SPL_CTL (R265, R277, R283, R285) -/

/-- Why a write of SPL_CTL is refused (R265, R285, R286, Table 11-12). -/
def splCtlBad (x : Nat) (v : Word) (s : State) : List (Bool × Nat) :=
  let l := linkState s x
  let old := rg s (Rg.SPL_CTL x)
  let idle := l = linkDown || l = linkFault
  [(bit v 0 && !(idle || l = linkMuted), rsState), (bit v 0 && !bit (rg s (Rg.SPL_STAT x)) 16, rsState),
   (bit v 0 && (spline s x).active.isNone, rsState), (bit v 0 && gauState s != gauLocked, rsState),
   (!idle && bits v 29 27 != bits old 29 27, rsState), (bits v 29 28 == 3, rsValue)]

/-- A write of SPL_CTL. -/
def splCtlWrite (x : Nat) (v : Word) (s : State) : State :=
  match lowest (splCtlBad x v s) with
  | some r => refuse (Pg.SPLINE x) 0x040 r v.toNat s
  | none =>
    let s := wr (Rg.SPL_CTL x) (v &&& 0x3C000000) s
    if bit v 0 then
      gatePend (setLink x linkTrain (wr (Rg.SPL_ECHO_STAT x) 0 (wr (Rg.SPL_ECHO_ADV x) 0
        (modSpline x (fun p => { p with
          reports := [], unrep := [], openCred := 0, needEcho := false, echoAt := none, exch := [], advWas := none,
          swap := none, echoRep := none, lastTx := none, wire := if bit v 26 then [knockSyms] else [],
          knockEnd := if bit v 26 then s.gauge.toNat + 200000 else 0 }) s))))
    else if bit v 1 && isUp s x then
      setLink x linkMuted (modSpline x (fun p => { p with echoAt := none, swap := none }) s)
    else s

/-- TRAIN (R265). -/
def execTrain (x : Nat) (s : State) : Out :=
  let v := (rg s (Rg.SPL_CTL x) &&& 0x3C000000) ||| 1
  .next (pageCmd (Pg.SPLINE x) 0x040 v (splCtlWrite x v) s)
/-- MUTE (R277). -/
def execMute (x : Nat) (s : State) : Out :=
  let v := (rg s (Rg.SPL_CTL x) &&& 0x3C000000) ||| 2
  .next (pageCmd (Pg.SPLINE x) 0x040 v (splCtlWrite x v) s)

/-- Insertion into a list in rising order, equal values kept. -/
def insSorted (d : Int) : List Int → List Int
  | [] => [d]
  | a :: l => if d ≤ a then d :: a :: l else a :: insSorted d l

/-- The median of the delays of the training exchanges (R252). Of an even number of them the two middle ones bound it, and no
rule says which value between them it is: a free value. -/
def median (ds : List Int) (s : State) : Int × State :=
  let l := ds.foldl (fun a d => insSorted d a) []
  let lo := l.getD ((l.length - 1) / 2) 0
  let hi := l.getD (l.length / 2) 0
  if lo = hi then (lo, s)
  else
    let f := takeFree s
    (lo + (f.1.toNat % ((hi - lo).toNat + 1) : Nat), f.2)

/-- Both keys of a new pair have been written. -/
def pairReady (p : SplineSt) : Bool := p.newKeys.length = 16

/-- The new pair takes effect (R283). -/
def useKeys (x : Nat) (s : State) : State :=
  modSpline x (fun p => if pairReady p then { p with keys := p.newKeys.map (·.2), newKeys := [] } else p) s

/-- Training has succeeded: the first advance is set, the lanes are mapped anew, and the spline enters UP (R262, R265). -/
def linkComesUp (x : Nat) (a : Int) (s : State) : State :=
  let s := wr (Rg.SPL_ECHO_ADV x) (word (0x80000000 + a.toNat % 2 ^ 13)) s
  let s := wr (Rg.SPL_LANE_MAP x) 0x76543210 (wrF (Rg.SPL_STAT x) 23 20 8 s)
  let f := (s.gauge.toNat / 4096 + 1) * 4096
  raiseEv (Pg.SPLINE x) 0x301 0 0 (setLink x linkUp (useKeys x (gaugeTo f s)))

/-- TRAIN_COMPLETE (R252, R265): the eight exchanges are made, and at gauge `t` the training ends; `peerB2b` says whether a back-to-back spline found its peer in that
mode too. -/
def trainComplete (x t : Nat) (peerB2b : Bool) (s : State) : State :=
  if linkState s x ≠ linkEcho ∨ (spline s x).exch.length ≠ 8 then s
  else
    let s := gaugeTo t s
    let r := median ((spline s x).exch.map fun m => echoDelay (echoAsym s x) m.ttx m.trx m.h) s
    let s := r.2
    if bit (rg s (Rg.SPL_CTL x)) 27 && !peerB2b then faultSpline x 6 s
    else if r.1 < 0 ∨ 8191 < r.1 then echoFault x 3 s
    else if rg s (Rg.SPL_SCHED x) ≠ rg s (Rg.CUT_ACT_ID x) then faultSpline x 4 s
    else linkComesUp x r.1 s
def execTrainComplete (x t : Nat) (peerB2b : Bool) (s : State) : Out := .next (trainComplete x t peerB2b s)

/-- TRAIN_TIMEOUT (R265): 1.5 s pass. -/
def trainTimeout (x : Nat) (s : State) : State :=
  if isTraining s x then faultSpline x 1 s else s
def execTrainTimeout (x : Nat) (s : State) : Out := .next (trainTimeout x s)

/-! ### Lanes (R267) -/

/-- One lane over a telemetry interval: corrected symbols, uncorrectable codewords, and whether it lost FEC lock. -/
def laneBad (s : State) (x : Nat) (l : Nat × Nat × Bool) : Bool :=
  decide (0 < l.2.1) || decide (bits (rg s (Rg.SPL_LANE_THR x)) 23 0 < l.1) || l.2.2

/-- Counts of physical lane `y` (Table 11-11, R453). -/
def laneCount (x : Nat) (s : State) (y : Nat × Nat × Nat × Bool) : State :=
  let h := Rg.HEALTH (Pg.SPLINE x)
  let s := wr (Rg.SPL_FEC_CEy x y.1) (word (min 0xFFFFFFFF y.2.1)) s
  let s := satAdd (Rg.SPL_FEC_UEy x y.1) y.2.2.1 s
  wr h (rg s h ||| word ((if y.2.1 = 0 then 0 else 2) + (if y.2.2.1 = 0 then 0 else 4))) s

/-- LANE_JUDGE (R267): at a telemetry mark every physical lane is judged over the interval that ends there. A swap is announced
from the next slot on, and taken at the frame boundary after the one that follows. -/
def laneJudge (x : Nat) (ls : List (Nat × Nat × Bool)) (s : State) : State :=
  if isUp s x = false ∨ ls.length ≠ 9 then s
  else
    let s := ((List.range 9).zip ls).foldl (laneCount x) s
    let map := rg s (Rg.SPL_LANE_MAP x)
    let phy (j : Nat) : Nat := bits map (4 * j + 3) (4 * j)
    let bad (y : Nat) : Bool := laneBad s x (ls.getD y (0, 0, false))
    let sp := bits (rg s (Rg.SPL_STAT x)) 23 20
    let s := if sp ≠ 15 ∧ bad sp = true then wrF (Rg.SPL_STAT x) 23 20 15 s else s
    match (List.range 8).find? (fun j => bad (phy j)) with
    | none => s
    | some j =>
      if (spline s x).swap.isSome then s
      else if sp = 15 ∨ bad sp = true then faultSpline x 2 s
      else modSpline x (fun p => { p with swap := some (j, sp), swapAt := (s.gauge.toNat / 4096 + 2) * 4096 }) s
def execLaneJudge (x : Nat) (ls : List (Nat × Nat × Bool)) (s : State) : Out := .next (laneJudge x ls s)

/-- LANE_SWAP_COMPLETE (R267): the degraded lane is the spare, which stays out of service until training. -/
def laneSwapComplete (x : Nat) (s : State) : State :=
  match isUp s x, (spline s x).swap with
  | true, some (j, y) =>
    let s := gaugeTo (spline s x).swapAt s
    let s := wrF (Rg.SPL_LANE_MAP x) (4 * j + 3) (4 * j) y (wrF (Rg.SPL_STAT x) 23 20 15 s)
    let s := satAdd (Rg.SPL_SWAP x) 1 (modSpline x (fun p => { p with swap := none }) s)
    raiseEv (Pg.SPLINE x) 0x303 j y s
  | _, _ => s
def execLaneSwapComplete (x : Nat) (s : State) : Out := .next (laneSwapComplete x s)

/-! ### Keys (R283) -/

/-- A key word is written: TX words are numbered 0 to 7, RX words 8 to 15. Keys written while the spline is not UP are loaded
for its training. -/
def keyWrite (x n : Nat) (v : Word) (s : State) : State :=
  let s := modSpline x (fun p => { p with newKeys := spIns n v p.newKeys }) s
  if pairReady (spline s x) && !isUp s x then wrF (Rg.SPL_STAT x) 16 16 1 s else s

/-- A write of SPL_KEY_CTL: the mark must lie at least one frame ahead. -/
def keyCtlWrite (x : Nat) (v : Word) (s : State) : State :=
  if bit v 31 && !markAhead s (Rg.SPL_KEY_MARK_LO x) then refuse (Pg.SPLINE x) 0x088 rsState v.toNat s
  else wrF (Rg.SPL_KEY_CTL x) 31 31 (b2n (bit v 31)) s

/-- KEY_ARM (R283). -/
def execKeyArm (x : Nat) (s : State) : Out :=
  .next (pageCmd (Pg.SPLINE x) 0x088 0x80000000 (keyCtlWrite x 0x80000000) s)

/-- KEY_CHANGE (R283): the mark is reached. -/
def keyChange (x : Nat) (s : State) : State :=
  if bit (rg s (Rg.SPL_KEY_CTL x)) 31 && isUp s x && pairReady (spline s x) then
    raiseEv (Pg.SPLINE x) 0x30C 0 0 (wrF (Rg.SPL_KEY_CTL x) 31 31 0 (useKeys x (gaugeTo (rg64 s (Rg.SPL_KEY_MARK_LO x)).toNat s)))
  else s
def execKeyChange (x : Nat) (s : State) : Out := .next (keyChange x s)

end Sys2Proof.Machine
end

