-- ==== Sys2Proof/Machine/Gauge.lean ====
section
/-! DEFINITION. The gauge (chapter 10): loading, GMARK, holdover and doubt. -/

namespace Sys2Proof.Machine

def setGau (c : Nat) (s : State) : State := wrF Rg.GAU_STAT 2 0 c s

/-- The length of the holdover so far, in µs (Table 10-7). -/
def holdLength (s : State) : State :=
  if gauState s = gauHoldover then wr Rg.GAU_HOLD (word (min 0xFFFFF ((s.gauge.toNat - s.gauAt) / 1000))) s else s

/-- The gauge enters DOUBT (R257, R259): every spline falls to electrical idle and enters FAULT, the flits
received are discarded, and Plumb drives rest. -/
def enterDoubt (cause : Nat) (s : State) : State :=
  let s := wrF Rg.GAU_STAT 31 28 cause (wrF Rg.GAU_STAT 10 8 0 (setGau gauDoubt (holdLength s)))
  let s := raiseEv Pg.GAUGE 0x404 cause 0 s
  let s := (List.range splineEnd).foldl (fun s x =>
    let s := if linkState s x = linkFault then s else faultSpline x 8 s
    modSpline x (fun p => { p with rxq := [] }) s) s
  enterRest 1 s

/-- A condition of Table 10-6 that leads to DOUBT from LOCKED or HOLDOVER. -/
def doubtIf (cause : Nat) (s : State) : State := if gauTrusted s then enterDoubt cause s else s

/-- GREF_OK. -/
def grefOk (on : Bool) (s : State) : State := wrF Rg.GAU_STAT 3 3 (b2n on) s

/-- Why a write of GAU_LOAD_LO or GAU_LOAD_HI is refused (R243). -/
def loadBad (hi : Bool) (v : Word) (s : State) : List (Bool × Nat) :=
  [(gauTrusted s, rsState), (!bit (rg s Rg.GAU_STAT) 3, rsState), (hi && bit v 31 && s.chip != .test, rsValue),
   (!hi && bits v 23 0 != 0, rsValue)]

/-- A write of GAU_LOAD_HI arms the load (R243), and reads as written (R10). -/
def loadHiWrite (v : Word) (s : State) : State :=
  match lowest (loadBad true v s) with
  | some r => refuse Pg.GAUGE 0x054 r v.toNat s
  | none => setGau gauArmed { wr Rg.GAU_LOAD_HI v s with gauAt := s.gauge.toNat, latch := spDel Rg.GAU_LOAD_HI s.latch }

/-- GAUGE_LOAD_ARM (R243). -/
def execGaugeLoadArm (v : Word) (s : State) : Out := .next (pageCmd Pg.GAUGE 0x054 v (loadHiWrite v) s)

/-- Offset of an edge at `t` tenths of a gt from the nearest multiple of 2^24 gt (R244). -/
def markOffset (t : Nat) : Int :=
  let p : Nat := 10 * 2 ^ 24
  let r := t % p
  if 2 * r ≤ p then r else (r : Int) - p

/-- The phase of the gauge against the PLL, in 0.1 ns (R244): the trim moves it by one at each frame boundary. -/
def gaugePhase (s : State) : Int :=
  let n := s.gauge.toNat / 4096 - s.trimAt
  s.phase + s.trim.sign * (min n s.trim.natAbs : Nat)

/-- A trim begins: what is left of the one before it is given up. -/
def startTrim (v : Int) (s : State) : State :=
  { s with phase := gaugePhase s, trim := v, trimAt := s.gauge.toNat / 4096 }

/-- GAU_OFFSET takes the offset of an edge; no rule says what its 16 bits show of one beyond them. -/
def storeOffset (x : Int) (s : State) : State :=
  let v := if x.natAbs < 2 ^ 15 then (ofSigned 16 x, s) else freeBits 16 s
  wr Rg.GAU_OFFSET (word (0x80000000 + v.1)) v.2

/-- GMARK_EDGE (R243, R244): a rising edge at gauge time `t`, in 0.1 ns, applies a pending load written at least 1 µs before,
or is measured. -/
def gmarkEdge (t : Nat) (s : State) : State :=
  let x := markOffset t
  if gauState s = gauArmed then
    (if s.gauAt + 1000 ≤ t / 10 then
      let v := rg64 s Rg.GAU_LOAD_LO
      let s := wrF Rg.GAU_STAT 10 8 0 (setGau gauLocked { s with gauge := v, phase := 0, trim := 0, trimAt := 0 })
      restPend 1 false (raiseEv Pg.GAUGE 0x401 (v.toNat % 2 ^ 32) (v.toNat / 2 ^ 32) s)
    else s)
  else if gauTrusted s = false then s
  else
    let s := gaugeTo (t / 10) s
    let locked := gauState s = gauLocked
    let s := if locked then storeOffset x s else s
    if 1000 < x.natAbs then enterDoubt 4 s
    else
      let s := wrF Rg.GAU_STAT 10 8 0 s
      if 15 < x.natAbs then enterDoubt 3 s else if locked then startTrim (-x) s else s
def execGmarkEdge (t : Nat) (s : State) : Out := .next (gmarkEdge t s)

/-- GMARK_MISSING (R244). -/
def gmarkMissing (s : State) : State :=
  if gauTrusted s = false then s
  else
    let n := bits (rg s Rg.GAU_STAT) 10 8 + 1
    let s := wrF Rg.GAU_STAT 10 8 n (raiseEv Pg.GAUGE 0x405 0 0 (satAdd Rg.GAU_MARK_MISS 1 s))
    if 4 ≤ n then enterDoubt 5 s else s
def execGmarkMissing (s : State) : Out := .next (gmarkMissing s)

/-- GAUGE_ARM_TIMEOUT (Table 10-2). -/
def gaugeArmTimeout (s : State) : State :=
  if gauState s = gauArmed then raiseEv Pg.GAUGE 0x405 0 0 (setGau gauFree (gaugeTo (s.gauAt + 2 ^ 25) s)) else s
def execGaugeArmTimeout (s : State) : Out := .next (gaugeArmTimeout s)

/-- GREF_LOSS (R257): the loss is detected. -/
def grefLoss (s : State) : State :=
  let s := grefOk false s
  if gauState s = gauLocked then
    raiseEv Pg.GAUGE 0x402 0 0 (wr Rg.GAU_HOLD 0 (satAdd Rg.GAU_HOLD_COUNT 1
      (setGau gauHoldover { s with gauAt := s.gauge.toNat })))
  else s
def execGrefLoss (s : State) : Out := .next (grefLoss s)

/-- GREF_RETURN (R257): GREF is present and in frequency again, in phase with the running gauge or not. -/
def grefReturn (inPhase : Bool) (s : State) : State :=
  let s := grefOk true s
  if gauState s = gauHoldover then
    (if inPhase then raiseEv Pg.GAUGE 0x403 0 0 (setGau gauLocked (holdLength s)) else enterDoubt 2 s)
  else s
def execGrefReturn (inPhase : Bool) (s : State) : Out := .next (grefReturn inPhase s)

/-- HOLDOVER_LIMIT (R257): 1 ms passes since the detection. -/
def holdoverLimit (s : State) : State :=
  if gauState s = gauHoldover then enterDoubt 1 (gaugeTo (s.gauAt + 1000000) s) else s
def execHoldoverLimit (s : State) : Out := .next (holdoverLimit s)

/-- PLL_LOCK_LOSS (R257). -/
def execPllLockLoss (s : State) : Out := .next (doubtIf 6 s)

/-- GAUGE_MONITOR_FAULT (R257). -/
def execGaugeMonitorFault (s : State) : Out := .next (doubtIf 7 s)

end Sys2Proof.Machine
end

