-- ==== Sys2Proof/Machine/Boot.lean ====
section
/-! DEFINITION. Boot (sections 16.2 to 16.4): verification of images, the directory, the boot stages, and CALIB. -/

namespace Sys2Proof.Machine

/-! ### Images (R397 to R399) -/

/-- Largest payload of a class in bytes (Table 16-2); none for a class that is not verified. -/
def classMax (c : Nat) : Option Nat :=
  match c with
  | 1 | 5 | 6 => some (256 * 1024)
  | 2 => some (2 * 2 ^ 20)
  | 3 | 4 => some (2 ^ 20)
  | 7 => some (512 * 1024)
  | 8 => some (96 * 2 ^ 20)
  | _ => none

/-- Fused anti-rollback counter of a class. -/
def arbOf (s : State) (c : Nat) : Nat := bits (rg s (Rg.FUSE_ARBn c)) 6 0
/-- Owner slots programmed; vendor and owner slots revoked (Table 16-10). -/
def ownerSet (s : State) (k : Nat) : Bool := bit (rg s Rg.FUSE_KEYS) (8 + k)
def ownerAny (s : State) : Bool := bits (rg s Rg.FUSE_KEYS) 11 8 != 0
def keyRevoked (s : State) (owner : Bool) (k : Nat) : Bool := bit (rg s Rg.FUSE_KEYS) ((if owner then 16 else 0) + k)

/-- The signer kind is allowed for the class, and the named slot is programmed (Table 16-2). -/
def signerOk (s : State) (i : ImgInfo) : Bool :=
  if i.cls = 2 then (if i.owner then ownerSet s i.key else !ownerAny s) else !i.owner

/-- Code of an image's verification (R399): 0 when every check passes, else the code of the first that fails. -/
def imgCode (s : State) (f : ImgFacts) : Nat :=
  let i := f.info
  match classMax i.cls with
  | none => if f.ue then 8 else 1
  | some n =>
    if f.ue then 8
    else if !f.format || decide (64 < i.svn) || decide (3 < i.key) then 1
    else if decide (n < f.len) || !f.fits then 7
    else if !signerOk s i || !f.hash then 2
    else if keyRevoked s i.owner i.key then 3
    else if !f.ed then 4
    else if !f.ml then 5
    else if i.svn < arbOf s i.cls then 6
    else 0

/-! ### Controllers (R19, R392, R402) -/

def fwUnit (s : State) (d : Nat) : FwUnit := spGet {} d s.fw
def modFw (d : Nat) (f : FwUnit → FwUnit) (s : State) : State := { s with fw := spPut {} d (f (fwUnit s d)) s.fw }
def FwUnit.slot (u : FwUnit) (k : Nat) : Option ImgInfo := if k = 0 then u.a else u.b
def FwUnit.setSlot (u : FwUnit) (k : Nat) (i : Option ImgInfo) : FwUnit := if k = 0 then { u with a := i } else { u with b := i }
/-- The image that a controller runs. -/
def FwUnit.running (u : FwUnit) : Option ImgInfo := u.run.bind u.slot

/-- Plumb's two slots, kept under a code of the same form. -/
def plumbUnit : Nat := 0x5240
/-- Units into whose slots images of a class are loaded (Table 16-2). -/
def classUnits (c : Nat) : List Nat :=
  match c with
  | 1 => [plumbUnit]
  | 3 => (List.range 8).map (0x50C0 + ·)
  | 4 => (List.range 16).map (0x5100 + ·)
  | 5 => [0x5180]
  | 6 => [0x5200]
  | 7 => [0x52C0]
  | _ => []
/-- Page of a controller's block (R354). -/
def fwPage (d : Nat) : Nat := d / 16 % 256 * 0x100000 + d % 16 * 0x1000

/-! ### The boot chain -/

/-- BOOT_STAT: a boot fails at a stage, with its class and code; the chip stays in BOOT and ALERT_N is asserted (R403). -/
def bootFail (stage cls code : Nat) (s : State) : State :=
  setAlert true (wrF Rg.BOOT_STAT 31 28 (8 + stage) (wrF Rg.BOOT_STAT 27 24 code (wrF Rg.BOOT_STAT 23 16 cls s)))

def bootStage (k : Nat) (s : State) : State := wrF Rg.BOOT_STAT 30 28 k s

/-- DBG_NONCE is replaced (R414). -/
def newNonce (s : State) : State :=
  let a := takeFree s
  let b := takeFree a.2
  wr64 (Rg.DBG_NONCEn 2) b.1 (wr64 (Rg.DBG_NONCEn 0) a.1 b.2)

/-- Stage 2: the identity keys are derived and the memory keys generated, so that nothing in memory reads as written
(R219, R411); a new nonce is drawn. -/
def bootKeys (s : State) : State :=
  let s := { s with bootNo := s.bootNo + 1, mem := [], memBad := [] }
  newNonce ((List.range 4).foldl (fun s n => wr (Rg.SEC_DEVICE_IDn n) (Config.deviceId n) s) s)

/-- The copy of the directory that is used (R396): 0 primary, 1 copy; none when neither is valid. -/
def dirPick (d : DirCopy × DirCopy) : Option (Nat × DirCopy) :=
  match d.1.ok, d.2.ok with
  | true, true => if serCmp 32 d.1.seq d.2.seq = .before then some (1, d.2) else some (0, d.1)
  | true, false => some (0, d.1)
  | false, true => some (1, d.2)
  | false, false => none

/-- The reads of an invalid copy write EV-0x708. -/
def dirReport (d : DirCopy × DirCopy) (s : State) : State :=
  let s := if d.1.ok then s else raiseEv Pg.BOOT 0x708 0 0 s
  if d.2.ok then s else raiseEv Pg.BOOT 0x708 1 0 s

/-- Stage 3 (R396, R400): the directory, and whether single SPI mode is in use. -/
def bootDir (r : BootRes) (s : State) : Option DirCopy × State :=
  let s := dirReport r.dir s
  let again := s.bootsel ≠ 1 && (dirPick r.dir).isNone
  let d := if again then r.dirSpi else r.dir
  let s := wrF Rg.BOOT_STAT 0 0 (b2n (s.bootsel = 1 || again)) (if again then dirReport r.dirSpi s else s)
  match dirPick d with
  | some (k, c) => (some c, wr Rg.BOOT_DIR_SEQ (word (k * 2 ^ 31 + c.seq % 2 ^ 31)) s)
  | none => (none, s)

/-- The image of a class in a set. -/
def flashImg (r : BootRes) (c set' : Nat) : Option FlashImg := r.imgs.find? fun i => i.facts.info.cls = c && i.set = set'

/-- An image is verified; a rejected one writes EV-0x701 (R399). -/
def bootVerify (c set' : Nat) (r : BootRes) (s : State) : Option ImgInfo × State :=
  match flashImg r c set' with
  | none => (none, s)
  | some i =>
    let k := imgCode s i.facts
    if k = 0 then (some i.facts.info, s) else (none, raiseEv Pg.BOOT 0x701 (c * 256 + k) i.off s)

/-- The set that the directory prefers for a class. -/
def prefSet (d : DirCopy) (c : Nat) : Nat := if d.pref.testBit c then 1 else 0

/-- The slot a controller starts from: the one last activated, where it still verifies, else that of the preferred set, else
the other (R402, R404). -/
def startSlot (u : FwUnit) (pref : Nat) : Option Nat :=
  let ok (k : Nat) : Bool := (u.slot k).isSome
  match u.last with
  | some k => if ok k then some k else if ok pref then some pref else if ok (1 - pref) then some (1 - pref) else none
  | none => if ok pref then some pref else if ok (1 - pref) then some (1 - pref) else none

/-- The images of a class go into the slots of every unit, and each unit starts (R402). Whether one verified. -/
def bootClass (d : DirCopy) (r : BootRes) (c : Nat) (s : State) : Bool × State :=
  let a := bootVerify c 0 r s
  let b := bootVerify c 1 r a.2
  let pref := prefSet d c
  let s := (classUnits c).foldl (fun s u => modFw u (fun x =>
    let x := { x with a := a.1, b := b.1 }
    { x with run := startSlot x pref }) s) b.2
  let fromB := (classUnits c).any fun u => (fwUnit s u).run = some 1
  (a.1.isSome || b.1.isSome, if fromB then wr Rg.BOOT_SET (rg s Rg.BOOT_SET ||| word (2 ^ c)) s else s)

/-- The code of a class that has no verifying image: that of the set preferred, or of the other; for a class that the directory
does not name no rule states one. DEDUCED, log entry 27. -/
def failCode (d : DirCopy) (r : BootRes) (c : Nat) (s : State) : Nat × State :=
  match flashImg r c (prefSet d c), flashImg r c (1 - prefSet d c) with
  | some i, _ => (imgCode s i.facts, s)
  | none, some i => (imgCode s i.facts, s)
  | none, none => freeBits 4 s

/-- Block states as the controllers start: those of a class without an image are OFFLINE (R397). -/
def bootBlocks (s : State) : State :=
  let on (d : Nat) : Bool := (fwUnit s d).run.isSome
  let s := (classUnits 3 ++ [0x5180, 0x5200]).foldl (fun s d => setBlk (fwPage d) (if on d then 3 else 0) s) s
  let s := (classUnits 4).foldl (fun s d => setBlk (fwPage d) 0 s) s
  setBlk (fwPage 0x52C0) (if on 0x52C0 then 2 else 0) s

/-- Stage 7: the loader in the cabinet's L2; the chip enters CALIB. -/
def bootLoader (d : DirCopy) (r : BootRes) (s : State) : State :=
  let p := prefSet d 2
  let a := bootVerify 2 p r s
  let b := if a.1.isSome then (none, a.2) else bootVerify 2 (1 - p) r a.2
  match a.1.or b.1 with
  | none =>
    let k := failCode d r 2 b.2
    bootFail 7 2 k.1 k.2
  | some i =>
    let set' := if a.1.isSome then p else 1 - p
    let s := { b.2 with cabImg := some i }
    let s := if set' = 1 then wr Rg.BOOT_SET (rg s Rg.BOOT_SET ||| 4) s else s
    setChip .calib (wr Rg.CAB_STAT 0x800000FF (bootBlocks (bootStage 7 s)))

/-- Stages 5 and 6: the controllers; the stacks are trained. -/
def bootRest (d : DirCopy) (r : BootRes) (s : State) : State :=
  let go (q : Option (Nat × Nat) × State) (c : Nat) : Option (Nat × Nat) × State :=
    match q.1 with
    | some _ => q
    | none =>
      let x := bootClass d r c q.2
      if x.1 || c = 4 || c = 7 then
        if c = 6 && r.pmbOld then (some (6, 1), x.2) else (none, x.2)
      else
        let k := failCode d r c x.2
        (some (c, k.1), k.2)
  let q := [3, 4, 5, 6, 7].foldl go (none, bootStage 5 s)
  match q.1 with
  | some (c, k) => bootFail 5 c k q.2
  | none =>
    let s := (List.range 8).foldl (fun s j => setStack j (if r.stackFail.contains j then 4 else 0) s) (bootStage 6 q.2)
    bootLoader d r s

/-- Stage 4, at the release of PORST_N alone: the PLUMB image. -/
def bootPlumb (d : DirCopy) (r : BootRes) (s : State) : State :=
  let x := bootClass d r 1 (bootStage 4 s)
  if x.1 then bootRest d r x.2
  else
    let k := failCode d r 1 x.2
    bootFail 4 1 k.1 k.2

/-- The boot chain from stage 2 (Table 16-4): whole after the release of PORST_N, and without stages 1 and 4 after a full chip
reset or a wake from DEEP (R404). The gauge counts from 0 (Table 10-2). -/
def boot (cold : Bool) (r : BootRes) (s : State) : State :=
  let s := wr Rg.BOOT_STAT (word (s.bootsel % 4 * 256)) { s with gauge := 0 }
  if s.bootsel = 3 then bootFail 1 0 1 s
  else
    let q := bootDir r (bootStage 3 (bootKeys (bootStage 2 s)))
    match q.1 with
    | none =>
      let c := freeBits 8 q.2
      let k := freeBits 4 c.2
      bootFail 3 c.1 k.1 k.2
    | some d => if cold then bootPlumb d r q.2 else bootRest d r q.2

/-! ### What resets leave (R10, R369, R376, R392, R418, R420) -/

/-- Counters that are cleared only while PORST_N is asserted (R238, R260, R448). -/
def sinceBoot (a : Nat) : Bool :=
  let off := regOff a
  match regCls a with
  | 0x04 => off == 0x040 || off == 0x044
  | 0x0C => off == 0x044 || off == 0x048 || off == 0x04C
  | 0x0D => off == 0x048 || off == 0x04C || off == 0x050 || off == 0x058
  | 0x10 => off == 0x06C || off == 0x074 || off == 0x07C || off == 0x10C || (0x240 ≤ off && off < 0x264)
  | 0x18 => off == 0x060 || off == 0x064 || off == 0x074
  | 0x20 => off == 0x048 || off == 0x058
  | 0x21 => off == 0x048
  | _ => false

/-- Registers that a reset of their domain leaves: those counters, ERR_FIRST and its gauge, fuses, the debug scopes, and
COMMAND_STATUS, which reports the reset itself. -/
def keptReg (a : Nat) : Bool :=
  sinceBoot a || (regOff a == 0x018) || (regOff a == 0x01C) || (regCls a == 0x29 && 0x40 ≤ regOff a)
    || a == Rg.DBG_STAT || a == Rg.COMMAND_STATUS

/-- The registers of the pages of a domain return to their reset values; the block states stay, for the hardware to move. -/
def resetPages (d : Nat) (s : State) : State :=
  resetRegs (fun a => domHolds d (pageResetDom (regCls a) (regInst a)) && !keptReg a && (regOff a != 8 || d == 0)) s

/-- Everything but Plumb starts anew (R356), in chip state `c`. What no reset but PORST_N touches stays: Plumb, fuses, the slots
last activated, the free counter and the queue. -/
def wipeTo (c : ChipState) (s : State) : State :=
  let gref := bits (rg s Rg.GAU_STAT) 3 3
  let p := resetPages 0 s
  wrF Rg.GAU_STAT 3 3 gref
    { State.reset with pending := s.pending, regs := p.regs, free := s.free, bootNo := s.bootNo, evq := p.evq, chip := c, chipPrev := p.chipPrev,
                       fenced := s.fenced, fencedPl := s.fencedPl, resets := s.resets, chipTries := s.chipTries,
                       halted := s.halted, restN := false, bootsel := s.bootsel,
                       fw := (s.fw.map fun e => (e.1, if e.1 = plumbUnit then e.2 else { last := e.2.last })),
                       ownerKeys := s.ownerKeys, hbMiss := s.hbMiss, retired := s.retired }

/-- A full chip reset: the chip is in BOOT, before its boot chain. -/
def wipeChip (s : State) : State := wipeTo .boot (setChip .boot s)

/-! ### PORST_N and CALIB -/

/-- PORST_ASSERT (R10): the part is OFF; fuses, and the owner keys in them, remain. -/
def porstAssert (s : State) : State :=
  { State.reset with pending := s.pending,
                     regs := s.regs.filter fun e => regCls e.1 == 0x29 && 0x40 ≤ regOff e.1,
                     free := s.free, bootNo := s.bootNo, ownerKeys := s.ownerKeys, retired := s.retired }
def execPorstAssert (s : State) : Out := .next (porstAssert s)

/-- PORST_RELEASE (R401): BOOTSEL is sampled, and the boot stages run. The CHIP page's PREV field starts at BOOT (Table 18-4). -/
def porstRelease (sel : BitVec 2) (r : BootRes) (s : State) : State :=
  if s.chip ≠ .off then s
  else boot true r (wrF Rg.GAU_STAT 3 3 1
    { setChip .boot { s with bootsel := sel.toNat, restN := false } with chipPrev := .boot })
def execPorstRelease (sel : BitVec 2) (r : BootRes) (s : State) : Out := .next (porstRelease sel r s)

/-- A fused-out bench (Table 16-10). -/
def benchFused (s : State) (b : Nat) : Bool := bit (rg s (Rg.FUSE_BENCH_OFFn (b / 32))) (b % 32)

/-- A bench has passed its self-test, with its table check (R124, R376), which HEALTH[10] alone shows: PLANE_TTAB_STAT.DONE
reports the check that a write asks for (DESIGN CHOICE, log entry 58). -/
def planeOk (s : State) (b : Nat) : State := wrF (Rg.HEALTH (Pg.BENCH b)) 10 10 1 s

/-- The bench map after the self-tests (R13): the first 128 benches that pass, in ascending order; the others that pass are
SPARE, and the rest OFFLINE. -/
def mapBenches (fails : List Nat) (s : State) : State :=
  let good := (List.range physEnd).filter fun b => !benchFused s b && !fails.contains b
  let map := good.take 128
  let s := good.foldl planeOk { s with benchMap := map }
  (List.range physEnd).foldl (fun s b =>
    setBlk (Pg.BENCH b) (if map.contains b then 2 else if good.contains b then 6 else 0) s) s

/-- Rest causes still active when CALIB ends drive the chip back to REST (R352). -/
def restAgain (s : State) : State :=
  match (List.range 12).find? (fun c => bit (rg s Rg.PLUMB_REST_PEND) c) with
  | some c => restGo c s
  | none => s

/-- CALIB_COMPLETE (Table 15-3, R213): the stacks are cleared and the benches tested; `fails` fail their self-test. The chip
leaves CALIB when every stack is trained, the gauge is LOCKED and 128 benches are mapped. -/
def calibComplete (fails : List Nat) (s : State) : State :=
  if s.chip ≠ .calib ∨ s.resets ≠ [] then s
  else
    let trained := (List.range 8).all fun j => stackState s j = 0
    let s := if trained && !bit (rg s (Rg.JMC_STAT 0)) 0 then
        wrMirror Rg.JMC_STAT (rg s (Rg.JMC_STAT 0) ||| 1) { s with mem := [], memBad := [], bootNo := s.bootNo + 1 }
      else s
    let s := mapBenches fails s
    if trained && gauState s == gauLocked && mapped128 s then
      restAgain (setChip (if s.bootsel = 2 then .test else .ready) s)
    else s
def execCalibComplete (fails : List Nat) (s : State) : Out := .next (calibComplete fails s)

end Sys2Proof.Machine
end

