-- ==== Sys2Proof/Machine/Resets.lean ====
section
/-! DEFINITION. Fences, resets and escalation (section 14.5), firmware activation (section 15.8), bench swaps and tests
(sections 14.7 and 14.8), Plumb's watch, the rest command and its exit, and requests of block states (R379). -/

namespace Sys2Proof.Machine

/-! ### Fences (R355) -/

/-- Benches of a domain. -/
def domBenches (d : Nat) : List Nat := (List.range physEnd).filter fun b => domHolds d (benchDom b)

/-- Pages that show the block states of a domain: its benches', its link die's, or its controller's block. -/
def domPages (d : Nat) : List Nat :=
  (domBenches d).map Pg.BENCH ++ (if d / 0x1000 = 3 then [Pg.LINKDIE (d % 0x1000)] else [])
    ++ (if d / 0x1000 = 5 then [fwPage d] else []) ++ (if d = 0x4000 then [Pg.CABINET] else [])

/-- The blocks of a domain change state; one that is OFFLINE stays so (R379). -/
def setBlocks (d c : Nat) (s : State) : State :=
  (domPages d).foldl (fun s p => if blkState s p = 0 then s else setBlk p c s) s

/-- A domain is fenced: its blocks are FENCED, and a fence of the compute domain freezes the benches and voids the step
(R355, Table 13-2). -/
def fenceDom (d : Nat) (byPlumb : Bool) (s : State) : State :=
  let s := setBlocks d 4 (fence d byPlumb s)
  if domHolds d 0x1000 then voidBit 7 { s with frozen := true } else s

/-- The chip freezes while its compute domain is fenced (R355); a hold freezes it too. -/
def thaw (s : State) : State := if computeFenced s ∨ s.hold ≠ .none then s else { s with frozen := false }

/-- Tickets of the benches of a domain, by bench. -/
def domTickets (d : Nat) (s : State) : List (Nat × Ticket) :=
  (domBenches d).flatMap fun b => (bench s b).tickets.map fun k => (b, k)

/-- Contexts of a link die, or of the chip, with operations outstanding. -/
def domFlows (d : Nat) (s : State) : List Nat :=
  (s.flows.filter fun e => (d == 0 || d == 0x3000 + dieOf e.1) && !e.2.ops.isEmpty).map (·.1)

/-- The requests that a fenced domain had accepted are drained. -/
def drained (d : Nat) (s : State) : Bool := (domTickets d s).isEmpty && (domFlows d s).isEmpty

/-- FENCE_DRAIN_TIMEOUT (R355): 1 ms passes; what is outstanding completes with TIMEOUT. `begun` gives, by bench and ticket,
the granule operations that had begun. -/
def fenceDrainTimeout (d : Nat) (begun : List (Nat × Nat × List Nat)) (s : State) : State :=
  if s.resets.any (fun r => r.dom = d && !r.running) = false then s
  else
    let s := (domTickets d s).foldl (fun s e =>
      cutTicket e.1 e.2 (begun.flatMap fun g => if g.1 = e.1 ∧ g.2.1 = e.2.n then g.2.2 else []) .timeout s) s
    (domFlows d s).foldl (fun s c => endAll c .timeout s) s
def execFenceDrainTimeout (d : Nat) (begun : List (Nat × Nat × List Nat)) (s : State) : Out :=
  .next (fenceDrainTimeout d begun s)

/-! ### Requests of resets (R356, R358) -/

/-- A reset of a domain is requested: it is fenced, and its reset waits for the drain. -/
def askReset (d : Nat) (byPlumb : Bool) (s : State) : State :=
  let was := (domBenches d).map fun b => (b, blkState s (Pg.BENCH b))
  fenceDom d byPlumb { s with resets := s.resets ++ [{ dom := d, running := false, was := was, late := false }] }

/-- The domain is being reset already. -/
def resetting (s : State) (d : Nat) : Bool := s.resets.any (·.dom = d)

/-- COMPUTE_RESET (R356). -/
def computeReset (tag : BitVec 16) : State → State :=
  command 0x01 tag inRUQST (fun s => [(resetting s 0x1000, rsState)]) (askReset 0x1000 false)
def execComputeReset (tag : BitVec 16) (s : State) : Out := .next (computeReset tag s)

/-- BENCH_RESET (R356): of a mapped bench only while it is FENCED and no step is OPEN, RUN or CLOSE. -/
def benchReset (tag : BitVec 16) : State → State :=
  command 0x02 tag inRUQST (fun s =>
    let b := bits (arg0 s) 7 0
    [(resetting s (benchDom b), rsState),
     ((logOf s b).isSome && (blkState s (Pg.BENCH b) != 4 || stepLive s), rsState), (decide (131 < b), rsValue)])
    fun s => askReset (benchDom (bits (arg0 s) 7 0)) false s
def execBenchReset (tag : BitVec 16) (s : State) : Out := .next (benchReset tag s)

/-- DOMAIN_RESET: of the chip, or of a link die (Table 15-6). -/
def domainReset (tag : BitVec 16) : State → State :=
  command 0x0F tag inRUQST (fun s =>
    let d := bits (arg0 s) 15 0
    [(resetting s d, rsState), (!([0, 0x3000, 0x3001].contains d), rsValue)])
    fun s =>
      let d := bits (arg0 s) 15 0
      askReset d false (if d = 0 then { s with chipTries := 1 } else s)
def execDomainReset (tag : BitVec 16) (s : State) : Out := .next (domainReset tag s)

/-! ### The reset itself -/

/-- A bench's state, as a bench reset leaves it (R81, R356). -/
def clearBench (b : Nat) (s : State) : State :=
  { s with benches := spDel b s.benches, ttabBusy := s.ttabBusy.erase b }

/-- The compute domain (Table 14-5): every bench, the clamp network and the hold network. -/
def clearCompute (s : State) : State :=
  let s := dropSwap s
  { s with benches := [], ttabBusy := [], gclamps := [], gclampReq := [], hold := .none, late := [] }

/-- A link die: its splines go DOWN, its flow contexts read IDLE, and what they held is gone. -/
def clearDie (d : Nat) (s : State) : State :=
  let s := ((List.range splineEnd).filter (splDie · = d)).foldl (fun s x =>
    if linkState s x = linkDown then s else setLink x linkDown s) s
  { s with splines := s.splines.filter (fun e => splDie e.1 ≠ d), flows := s.flows.filter fun e => dieOf e.1 ≠ d }

/-- What the reset of a domain clears. -/
def clearDom (d : Nat) (s : State) : State :=
  if d = 0 then wipeChip s
  else
    let s := if d = 0x1000 then clearCompute s
      else if d / 0x1000 = 2 then clearBench (d % 0x1000) s
      else if d / 0x1000 = 3 then clearDie (d % 0x1000) s
      else s
    resetPages d s

/-- A larger reset in progress holds this one. -/
def inLarger (s : State) (d : Nat) : Bool := s.resets.any fun r => r.dom ≠ d && domHolds r.dom d

/-- The domain's reset starts (R355). -/
def startReset (d : Nat) (s : State) : State :=
  let s := { s with resets := s.resets.map fun r => if r.dom = d then { r with running := true } else r }
  clearDom d (raiseEv Pg.PLUMB 0x503 d 0 (setBlocks d 1 s))

/-- RESET_START (R355): the drain ends. -/
def resetStart (d : Nat) (s : State) : State :=
  if s.resets.any (fun r => r.dom = d && !r.running) && !inLarger s d && (drained d s || d = 0) then startReset d s else s
def execResetStart (d : Nat) (s : State) : Out := .next (resetStart d s)

/-- The bench in SPARE that replaces a failed one: the lowest of them (DESIGN CHOICE, log entry 58). -/
def spareBench (s : State) : Option Nat := (List.range physEnd).find? fun p => blkState s (Pg.BENCH p) = 6

/-- The bench map changes (R356, R362). -/
def remap (l p : Nat) (s : State) : State :=
  let old := (physOf s l).getD 0
  raiseEv Pg.HOLD 0x507 l (old * 256 + p) { s with benchMap := s.benchMap.set l p }

/-- A bench that fails its self-test at a compute reset is OFFLINE; one that was mapped is replaced by a spare (R356). -/
def failBench (s : State) (b : Nat) : State :=
  let l := logOf s b
  let s := setBlk (Pg.BENCH b) 0 s
  match l, spareBench s with
  | some l, some p => setBlk (Pg.BENCH p) 2 (remap l p s)
  | some _, none => benchFailed (voidBit 7 s)
  | none, _ => s

/-- The benches of a domain as its reset leaves them: IDLE if mapped, and otherwise as they were (R356). -/
def benchesUp (was : List (Nat × Nat)) (s : State) : State :=
  was.foldl (fun s e => setBlk (Pg.BENCH e.1) (if (logOf s e.1).isSome ∧ e.2 ≠ 0 then 2 else e.2) s) s

/-- The boot self-test of every bench (R356, R124): `fails` fail it. -/
def selfTest (fails : List Nat) (s : State) : State :=
  let on (s : State) (b : Nat) : Bool := blkState s (Pg.BENCH b) != 0
  let bad := fails.eraseDups.filter fun b => decide (b < physEnd) && on s b
  let s := (List.range physEnd).foldl (fun s b => if on s b && !bad.contains b then planeOk s b else s) s
  let s := bad.foldl (fun s b => if blkState s (Pg.BENCH b) = 6 then setBlk (Pg.BENCH b) 0 s else s) s
  (bad.filter fun b => blkState s (Pg.BENCH b) ≠ 0).foldl failBench s

/-- A link die that comes back copies the mirrored registers and the epoch from the other, which stayed in service (R450). -/
def copyDie (d : Nat) (s : State) : State :=
  let o := 1 - d
  if resetting s (0x3000 + o) then s
  else
    let cp (reg : Nat → Nat) (s : State) : State := wr (reg d) (rg s (reg o)) s
    (List.range 512).foldl (fun s g => cp (fun i => Rg.LKD_GRPn i g) s)
      (cp Rg.LKD_MEMBER (cp Rg.LKD_EPOCH (cp Rg.LKD_EPOCH_NEXT s)))

/-- Opcode of the command that resets a domain. -/
def resetOpc (d : Nat) : Nat := if d = 0x1000 then 0x01 else if d / 0x1000 = 2 then 0x02 else 0x0F

/-- A reset has completed: its event, and the command that asked for it, which reports TIMEOUT when it had exceeded its bound
(R358, R382). -/
def reportReset (us : Nat) (s : State) (r : ResetSt) : State :=
  cmdEnd (resetOpc r.dom) (if r.late then resTimeout else resOk) (raiseEv Pg.PLUMB 0x504 r.dom us s)

/-- The end of a domain's reset: the fence is released, and the resets within it are reported (R355, R358). -/
def endReset (d us : Nat) (s : State) : State :=
  let mine := s.resets.filter fun r => domHolds d r.dom
  let s := thaw (unfence d { s with resets := s.resets.filter fun r => !domHolds d r.dom })
  mine.foldl (reportReset us) s

/-- What the domain's units are as its reset completes. -/
def domUp (r : ResetSt) (fails : List Nat) (s : State) : State :=
  if r.dom = 0x1000 then selfTest fails (benchesUp r.was s)
  else if r.dom / 0x1000 = 2 then benchesUp r.was s
  else if r.dom / 0x1000 = 3 then setBlk (Pg.LINKDIE (r.dom % 0x1000)) 1 (copyDie (r.dom % 0x1000) s)
  else if r.dom = 0x4000 then wr Rg.CAB_STAT 0x800000FF { s with hbMiss := false, l2 := [] }
  else s

/-- The full chip reset passes through BOOT; its completion ends rest cause ESCALATION and COMMIT_TABLE (Table 14-4). A boot
that fails leaves the chip in BOOT (R403), and the command reports it. -/
def chipUp (us : Nat) (b : BootRes) (s : State) : State :=
  let s := boot false b s
  if s.chip = .calib then
    endReset 0 us (restPend 9 false (restPend 7 false { s with chipTries := 0 }))
  else cmdEnd 0x0F resFailed (unfence 0 { s with resets := [] })

/-- RESET_COMPLETE (R355): `us` is the reset's duration; `fails` are the benches that fail the self-test of a compute reset,
and `b` is what a full chip reset finds as it boots. -/
def resetComplete (d us : Nat) (fails : List Nat) (b : BootRes) (s : State) : State :=
  match s.resets.find? (fun r => r.dom = d && r.running) with
  | some r => if inLarger s d then s else if d = 0 then chipUp us b s else endReset d us (domUp r fails s)
  | none => s
def execResetComplete (d us : Nat) (fails : List Nat) (b : BootRes) (s : State) : Out :=
  .next (resetComplete d us fails b s)

/-! ### Controllers that restart (R347, R392, R393) -/

/-- The spline of a domain code of kind 5, if it is one. -/
def fwSpline (d : Nat) : Option Nat := if d / 16 = 0x510 then some (d % 16) else none

/-- A test in progress ends (R364): a bench that passes is SPARE, and one that fails OFFLINE. -/
def testEnds (fails unit : Nat) (s : State) : State :=
  match s.testing with
  | none => s
  | some b =>
    let pass := decide (fails = 0)
    let s := wr Rg.TST_FAILS (word (min 0xFFFFFFFF fails)) { s with testing := none }
    let st := word (0x40000000 + b2n pass * 0x20000000 + unit % 8 * 0x1000000 + b)
    let s := wr Rg.TST_STAT st s
    let s := if inTest s b = false then s
      else clearBench b (setBlk (Pg.BENCH b) (if pass then 6 else 0) s)
    let s := { s with passed := if pass then setIns b s.passed else s.passed.erase b }
    let s := if blkState s Pg.TEST = 3 then setBlk Pg.TEST 2 s else s
    cmdEnd 0x04 resOk (raiseEv Pg.TEST 0x802 st.toNat 0 s)

/-- A controller's block is fenced and its controller restarts from a slot (R347, R392): a spline is MUTED meanwhile, and a
test in progress fails (Table 14-5). -/
def restart (d slot : Nat) (cmd byPlumb : Bool) (s : State) : State :=
  let page := fwPage d
  let link := match fwSpline d with
    | some x => linkState s x
    | none => 0
  let r : Restart := { dom := d, slot := slot, cmd := cmd, link := link, blk := blkState s page }
  let s := fenceDom d byPlumb { s with restarts := s.restarts ++ [r] }
  let s := match fwSpline d with
    | some x => if isUp s x then wrF (Rg.SPL_STAT x) 31 29 linkMuted s else s
    | none => s
  if d = 0x52C0 then testEnds 1 0 s else s

/-- The restart of a controller is over: its fence is released, and its block is as it was. -/
def restarted (r : Restart) (s : State) : State :=
  let s := unfence r.dom { s with restarts := s.restarts.filter (·.dom ≠ r.dom) }
  let s := match fwSpline r.dom with
    | some x => if linkState s x = linkMuted then wrF (Rg.SPL_STAT x) 31 29 r.link s else s
    | none => s
  if blkState s (fwPage r.dom) = 4 then setBlk (fwPage r.dom) r.blk s else s

/-- The power manager's controller has restarted: cause OVER_VOLTAGE ends with a reading within limits, and the AVSBus is the
power manager's again (Table 14-4). -/
def powerBack (d : Nat) (s : State) : State :=
  if d = 0x5200 ∧ bits (rg s Rg.PLUMB_VCORE) 15 0 ≤ bits (rg s Rg.AVS_VMAX) 9 0 + 25 then
    restPend 3 false (wrF Rg.PLUMB_STAT 28 28 0 s)
  else s

/-- A domain code that names a controller (Table 14-5). -/
def fwCode (d : Nat) : Bool := [3, 4, 5, 6, 7].any fun c => (classUnits c).contains d

/-- FW_ACTIVATE (R392). -/
def fwActivate (tag : BitVec 16) : State → State :=
  command 0x07 tag inRUQST (fun s =>
    let d := bits (arg0 s) 15 0
    let k := bits (arg1 s) 0 0
    [(!fwCode d, rsValue), (((fwUnit s d).slot k).isNone, rsState), (fencedDom s d, rsState),
     (s.restarts.any (·.cmd), rsBusy),
     (d / 16 = 0x50C && (stackState s (d % 16) = 1 || stackState s (d % 16) = 2), rsState)])
    fun s => restart (bits (arg0 s) 15 0) (bits (arg1 s) 0 0) true false s
def execFwActivate (tag : BitVec 16) (s : State) : Out := .next (fwActivate tag s)

/-- A block whose controller had not started is no longer OFFLINE once one runs. -/
def blockStarts (r : Restart) (s : State) : State :=
  if r.blk = 0 ∧ (fwSpline r.dom).isNone = true then setBlk (fwPage r.dom) (if r.dom = 0x52C0 then 2 else 3) s else s

/-- FW_FIRST_HEARTBEAT (R392, R347): the restarted controller's first heartbeat arrives. -/
def fwFirstHeartbeat (d : Nat) (s : State) : State :=
  match s.restarts.find? (·.dom = d) with
  | none => s
  | some r =>
    let s := powerBack d (restarted r s)
    if r.cmd then
      let s := blockStarts r (modFw d (fun u => { u with run := some r.slot, last := some r.slot }) s)
      let v := match (fwUnit s d).running with
        | some i => i.version
        | none => 0
      cmdEnd 0x07 resOk (raiseEv Pg.CHIP 0x005 d v s)
    else s
def execFwFirstHeartbeat (d : Nat) (s : State) : Out := .next (fwFirstHeartbeat d s)

/-! ### Escalation (R357) -/

/-- The domain to which a reset escalates (Table 14-5); none for the test controller. -/
def escTarget (d : Nat) : Option Nat :=
  if d / 0x1000 = 2 then some 0x1000
  else if d / 16 = 0x510 then some (0x3000 + d % 16 / 8)
  else if d = 0x52C0 then none
  else some 0

/-- The chip's reset has failed twice: Plumb holds the chip in reset, with REST_N and ALERT_N asserted (R357). -/
def halt (s : State) : State := setAlert true { s with halted := true, restN := true, resets := [] }

/-- Plumb records an escalation and drives rest with cause ESCALATION. -/
def escalate (d t : Nat) (s : State) : State :=
  enterRest 7 (raiseEv Pg.PLUMB 0x505 d t (wr Rg.PLUMB_ESC (word (0x80000000 + d)) s))

/-- A reset of domain `d`, or a restart of its controller, has not completed within its bound. -/
def escalateReset (d : Nat) (s : State) : State :=
  let s := { s with resets := s.resets.map fun r => if r.dom = d then { r with late := true } else r }
  if d = 0 then
    (if 2 ≤ s.chipTries then halt s
    else startReset 0 { escalate 0 0 s with chipTries := 2 })
  else match escTarget d with
    | none =>
      { setBlk Pg.TEST 0 (unfence d { s with restarts := s.restarts.filter (·.dom ≠ d) }) with
        fw := spPut {} d { fwUnit s d with run := none } s.fw }
    | some t =>
      let s := escalate d t { s with restarts := s.restarts.filter (·.dom ≠ d) }
      if resetting s t then s else askReset t true (if t = 0 then { s with chipTries := 1 } else s)

/-- What the escalation reaches: the whole part, which Plumb drives into rest, or the test controller alone. -/
def escReach (d : Nat) : Nat := if d = 0x52C0 then d else 0

/-- RESET_ESCALATION (R357). -/
def resetEscalation (d : Nat) (hit : Option CmdHit) (s : State) : State :=
  if s.resets.any (·.dom = d) && !inLarger s d || s.restarts.any (fun r => r.dom = d && !r.cmd) then
    plumbWins (escReach d) hit (escalateReset d s)
  else s
def execResetEscalation (d : Nat) (s : State) (hit : Option CmdHit := none) : Out := .next (resetEscalation d hit s)

/-- FW_ACTIVATE_TIMEOUT (R393): no first heartbeat within PLUMB_DOM_TO. The controller restarts once from the slot it ran
before; if that restart misses the bound as well, it escalates. -/
def fwActivateTimeout (d : Nat) (hit : Option CmdHit) (s : State) : State :=
  match s.restarts.find? (·.dom = d) with
  | none => s
  | some r =>
    if r.cmd then
      let s := match (fwUnit s d).run with
        | some k => { s with restarts := s.restarts.map fun q => if q.dom = d then { q with slot := k, cmd := false } else q }
        | none => restarted r s
      plumbWins d hit (cmdEnd 0x07 resFailed (raiseEv Pg.CHIP 0x006 0 0 s))
    else plumbWins (escReach d) hit (escalateReset d s)
def execFwActivateTimeout (d : Nat) (s : State) (hit : Option CmdHit := none) : Out := .next (fwActivateTimeout d hit s)

/-- BC_HEARTBEAT_TIMEOUT (R347): a block controller misses PLUMB_BC_TO. Plumb's restart takes precedence over an activation of
the controller, which is abandoned (R393). -/
def bcHeartbeatTimeout (d : Nat) (hit : Option CmdHit) (s : State) : State :=
  match (fwUnit s d).run, s.restarts.find? (·.dom = d) with
  | none, _ => s
  | some k, some r =>
    if r.cmd then
      let s := { s with restarts := s.restarts.map fun q => if q.dom = d then { q with slot := k, cmd := false } else q,
                        fencedPl := setIns d s.fencedPl }
      plumbWins d hit (raiseEv Pg.PLUMB 0x50B d 0 (cmdEnd 0x07 resAbandoned s))
    else s
  | some k, none => if fwCode d then plumbWins d hit (raiseEv Pg.PLUMB 0x50B d 0 (restart d k false true s)) else s
def execBcHeartbeatTimeout (d : Nat) (s : State) (hit : Option CmdHit := none) : Out := .next (bcHeartbeatTimeout d hit s)

/-! ### Bench swap (R361 to R363) -/

/-- A freeze dump is armed or in progress. -/
def freezing (s : State) : Bool := bit (rg s Rg.HOLD_FREEZE_STAT) 29 || bit (rg s Rg.HOLD_FREEZE_CTL) 31

/-- Some stream of the chip is outside STOPPED and DONE. -/
def streamsBusy (s : State) : Bool :=
  (serviceStreams s).any fun p => (str s p.1 p.2).state ≠ .stopped && (str s p.1 p.2).state ≠ .done

/-- BENCH_SWAP (R361, R362): the command, and its hold. -/
def benchSwap (tag : BitVec 16) : State → State :=
  command 0x03 tag [.ready, .run, .test] (fun s =>
    let l := bits (arg0 s) 6 0
    let p := bits (arg0 s) 15 8
    let old := blkState s (Pg.BENCH ((physOf s l).getD 0))
    [(blkState s (Pg.BENCH p) ≠ 6, rsState), ((physOf s l).isNone, rsState), (s.swap.isSome, rsState),
     (freezing s, rsState), (s.resets.any fun r => domHolds r.dom 0x1000, rsState),
     ((List.range 8).any fun j => stackState s j = 1, rsState),
     (stepLive s && (decide (old ≠ 2 ∧ old ≠ 3) || decide ((rg s Rg.HOLD_TO).toNat < 200)), rsState),
     (decide (131 < p), rsValue), (bits (arg0 s) 17 16 = 3, rsValue)])
    fun s =>
      let l := bits (arg0 s) 6 0
      let held := streamsBusy s && s.hold = .none
      let s := if held then raiseHold l 0 s else s
      { s with swap := some { l := l, p := bits (arg0 s) 15 8, disp := bits (arg0 s) 17 16, held := held } }
def execBenchSwap (tag : BitVec 16) (s : State) : Out := .next (benchSwap tag s)

/-- The hold of a swap is released (R362), with no other late item outstanding. -/
def releaseSwap (held : Bool) (s : State) : State :=
  if held && s.late.isEmpty && s.hold = .frozen then { s with hold := .releasing } else s

/-- A swap is abandoned (R363). -/
def abandonSwap (w : SwapSt) (s : State) : State := releaseSwap w.held (dropSwap s)

/-- The bench's transfers into or out of its tray are done (R362). -/
def swapQuiet (s : State) (b : Nat) : Bool :=
  (bench s b).tickets.all (fun k => k.sb.isNone && k.op ≠ .dmas && k.op ≠ .dmax)
    && s.benches.all fun e => e.2.tickets.all fun k =>
      k.op ≠ .dmax || match k.td with
        | some d => physOf s d.peer ≠ some b
        | none => true

/-- Registers of a bench's pages that describe its jig: the SEQ page's programs, budgets, bounds and tables, and the audit
channels; by their offset from bench 0's. -/
def jigRegs : List Nat :=
  auditRegs 0 ++ ((List.range 56).map fun i => Pg.SEQ 0 + 0x060 + 4 * i).filter fun a =>
    !([0x114, 0x120, 0x124, 0x128].contains (regOff a))

/-- The jig registers move from bench `b` to bench `p`. -/
def moveJig (b p : Nat) (s : State) : State :=
  jigRegs.foldl (fun s a => wr (a + 0x1000 * b) (regReset (a + 0x1000 * b))
    (wr (a + 0x1000 * p) (rg s (a + 0x1000 * b)) s)) s

/-- An item that a hold waits for moves with its bench. -/
def moveLate (b p : Nat) : LateItem → LateItem
  | .ticket c n => .ticket (if c = b then p else c) n
  | .block c t k => .block (if c = b then p else c) t k

/-- The copy and the map (R362): the bench's state moves from `b` to `p`, whose sequencer pair runs in step. -/
def swapMove (w : SwapSt) (b : Nat) (s : State) : State :=
  let x := bench s b
  let s := moveJig b w.p (setBench b {} (setBench w.p { x with locked := false } s))
  let s := remap w.l w.p { s with swap := none, late := s.late.map (moveLate b w.p) }
  let s := benchActivity w.p (setBlk (Pg.BENCH w.p) 2 s)
  let s := setBlk (Pg.BENCH b) ([6, 5, 0].getD w.disp 0) s
  cmdEnd 0x03 resOk (releaseSwap w.held s)

/-- SWAP_COPY (R362): quiescence is reached. A swap that found the chip frozen raises its hold now; an uncorrectable word in the
tray abandons the swap (R363). -/
def swapCopy (s : State) : State :=
  match s.swap with
  | none => s
  | some w =>
    match physOf s w.l with
    | none => s
    | some b =>
      if swapQuiet s b = false ∨ (w.held = false ∧ s.hold ≠ .none) then s
      else
        let raise := !w.held && streamsBusy s
        let s := if raise then raiseHold w.l 0 s else s
        let w := { w with held := w.held || raise }
        if (bench s b).trayBad.isEmpty then swapMove w b s
        else abandonSwap w (trayUeReport b [(0, trayEnd)] { s with swap := some w })
def execSwapCopy (s : State) : Out := .next (swapCopy s)

/-- SWAP_ABANDON (R363): quiescence does not arrive within HOLD_TO, or the copy finds a CRC mismatch, or an uncorrectable word
(`ue`), which voids the token. -/
def swapAbandon (ue : Bool) (s : State) : State :=
  match s.swap with
  | none => s
  | some w =>
    let s := if ue then benchVoid ((physOf s w.l).getD 0) 2 s else s
    abandonSwap w s
def execSwapAbandon (ue : Bool) (s : State) : Out := .next (swapAbandon ue s)

/-! ### Structural test (R364) -/

/-- TEST_BENCH (R364). -/
def testBench (tag : BitVec 16) : State → State :=
  command 0x04 tag inRUQST (fun s =>
    let b := bits (arg0 s) 7 0
    [(!inTest s b, rsState), (s.testing.isSome, rsState), (blkState s Pg.TEST ≠ 2, rsState), (decide (131 < b), rsValue)])
    fun s =>
      let b := bits (arg0 s) 7 0
      raiseEv Pg.TEST 0x801 b 0 (setBlk Pg.TEST 3 (wr Rg.TST_STAT (word (0x80000000 + b)) { s with testing := some b }))
def execTestBench (tag : BitVec 16) (s : State) : Out := .next (testBench tag s)

/-- TEST_COMPLETE (R364, R407): the test ends with `fails` failing patterns, the first of them in `unit`, or on a pattern segment
whose digest differs, from which no verdict is drawn. -/
def testComplete (fails unit : Nat) (digestBad : Bool) (s : State) : State :=
  match s.testing with
  | none => s
  | some b =>
    if digestBad then
      let st := word (0x40000000 + b)
      let s := wr Rg.TST_STAT st { s with testing := none }
      cmdEnd 0x04 resFailed (raiseEv Pg.TEST 0x802 st.toNat 0 (raiseEv Pg.TEST 0x702 0 0 (setBlk Pg.TEST 2 s)))
    else testEnds fails (if fails = 0 then 0 else unit) s
def execTestComplete (fails unit : Nat) (digestBad : Bool) (s : State) : Out := .next (testComplete fails unit digestBad s)

/-! ### Rest by command, and its exit (R350, R353) -/

/-- REST (R350): cause COMMAND. -/
def restCommand (tag : BitVec 16) : State → State :=
  command 0x09 tag inRUQT (fun _ => []) fun s => cmdEnd 0x09 resOk (enterRest 8 s)
def execRest (tag : BitVec 16) (s : State) : Out := .next (restCommand tag s)

/-- The compute reset of the rest exit, from its fence to its end (R353). -/
def exitReset (us : Nat) (fails : List Nat) (s : State) : State :=
  let s := askReset 0x1000 false s
  let was := match s.resets.find? (·.dom = 0x1000) with
    | some r => r.was
    | none => []
  let s := startReset 0x1000 (fenceDrainTimeout 0x1000 [] s)
  let s := selfTest fails (benchesUp was s)
  raiseEv Pg.PLUMB 0x504 0x1000 us
    (thaw (unfence 0x1000 { s with resets := s.resets.filter fun r => !domHolds 0x1000 r.dom }))

/-- REST_EXIT (R353): `us` is the duration of its compute reset, and `fails` the benches that fail the self-test. -/
def restExit (tag : BitVec 16) (us : Nat) (fails : List Nat) : State → State :=
  command 0x0A tag [.rest] (fun s =>
    [(rg s Rg.PLUMB_REST_PEND != 0, rsState), (gauState s != gauLocked, rsState),
     (!s.fenced.isEmpty || !s.resets.isEmpty, rsState)])
    fun s =>
      let s := exitReset us fails s
      let s := setChip (if s.restTest then .test else .ready) s
      let s := { setAlert false (wrF Rg.PLUMB_STAT 31 31 0 s) with restN := false }
      let s := if mapped128 s then s else benchFailed s
      cmdEnd 0x0A resOk (raiseEv Pg.PLUMB 0x501 0 0 s)
def execRestExit (tag : BitVec 16) (us : Nat) (fails : List Nat) (s : State) : Out := .next (restExit tag us fails s)

/-! ### Plumb's watch (R346, R348) -/

/-- A write of PLUMB_HB (R346). -/
def heartbeatWrite (v : Word) (s : State) : State :=
  if bits v 15 0 = (bits (rg s Rg.PLUMB_HB_LAST) 15 0 + 1) % 2 ^ 16 then
    restPend 6 false { wr Rg.PLUMB_HB_LAST (word (bits v 15 0)) s with hbMiss := false }
  else refuse Pg.PLUMB 0x04C rsValue v.toNat s
/-- HEARTBEAT_WRITE (R346). -/
def execHeartbeatWrite (v : Word) (s : State) : Out := .next (pageCmd Pg.PLUMB 0x04C v (heartbeatWrite v) s)

/-- HEARTBEAT_TIMEOUT (R346): PLUMB_HB_TO passes, or passes again. -/
def heartbeatTimeout (hit : Option CmdHit) (s : State) : State :=
  if !manageable s then s
  else if s.hbMiss then (if resetting s 0x4000 then s else plumbWins 0x4000 hit (askReset 0x4000 true s))
  else plumbWins 0 hit (raiseEv Pg.PLUMB 0x506 0 0 (enterRest 6 { s with hbMiss := true }))
def execHeartbeatTimeout (s : State) (hit : Option CmdHit := none) : Out := .next (heartbeatTimeout hit s)

/-- PLUMB_LOCKSTEP_MISMATCH (R348). -/
def plumbLockstepMismatch (hit : Option CmdHit) (s : State) : State :=
  if s.chip = .off then s
  else plumbWins 0 hit (raiseEv Pg.PLUMB 0x50D 0 0
    { enterRest 10 (setAlert true (wrF Rg.PLUMB_STAT 29 29 0 s)) with restN := true })
def execPlumbLockstepMismatch (s : State) (hit : Option CmdHit := none) : Out := .next (plumbLockstepMismatch hit s)

/-! ### Block state requests (R379, R452) -/

/-- The page that shows a page's block: the four pages of a bench show one (R446). -/
def blockPage (page : Nat) : Nat := if regCls page = 2 ∨ regCls page = 3 ∨ regCls page = 4 then Pg.BENCH (regInst page) else page

/-- The requests that Table 15-4 accepts of the block of a page in state `c`. -/
def requestOk (s : State) (page c r : Nat) : Bool :=
  let cls := regCls page
  let i := regInst page
  if cls = 1 then (c = 5 && r = 6 && s.passed.contains i) || (c = 5 && r = 0 && (logOf s i).isNone) || (c = 6 && r = 5)
  else if cls = 0x10 then (c = 0 && r = 5 && (linkState s i = linkDown || linkState s i = linkFault)) || (c = 5 && r = 0)
  else false

/-- A write of STATE_REQ on a page; `done` says that the hardware makes the transition within TIMEOUT_CFG. A bench that leaves TEST
drops its tickets, since a bench in SPARE or OFFLINE holds none (R14; DESIGN CHOICE, log entry 58). -/
def stateReqWrite (page : Nat) (v : Word) (done : Bool) (s : State) : State :=
  let bp := blockPage page
  let r := bits v 3 0
  let ch := bit (rg s (Rg.STATE bp)) 31
  match lowest [(!requestOk s bp (blkState s bp) r && !ch, rsState), (ch, rsBusy)] with
  | some k => refuse page 0x00C k v.toNat s
  | none =>
    let s := wr (Rg.STATE_REQ page) (word r) s
    if done then
      setBlk bp r (if regCls bp = 1 then modBench (regInst bp) (fun x => { x with tickets := [] }) s else s)
    else wrF (Rg.STATE bp) 31 31 1 s

/-- STATE_REQUEST (R379). -/
def execStateRequest (page : Nat) (v : Word) (done : Bool) (s : State) : Out :=
  .next (if regInst page < pageCount (regCls page) ∧ regOff page = 0 then
    pageCmd page 0x00C v (stateReqWrite page v done) s else s)

/-- STATE_REQUEST_TIMEOUT (R379): the block returns to its former state. -/
def stateRequestTimeout (page : Nat) (s : State) : State :=
  let bp := blockPage page
  if bit (rg s (Rg.STATE bp)) 31 then
    raiseEv bp 0x004 (bits (rg s (Rg.STATE_REQ page)) 3 0) (blkState s bp) (wrF (Rg.STATE bp) 31 31 0 s)
  else s
def execStateRequestTimeout (page : Nat) (s : State) : Out := .next (stateRequestTimeout page s)

end Sys2Proof.Machine
end

