-- ==== Sys2Proof/Machine/Events.lean ====
section
/-! DEFINITION. The event controller (section 15.5): the order of emission, the ring, DIRECT mode, and the interrupt. -/

namespace Sys2Proof.Machine

/-- Source page of an event, as records carry it: class and instance (Table 15-7). -/
def pageNo (page : Nat) : Nat := regCls page * 256 + regInst page

/-- The order in which events leave (R385). -/
def evBefore (now : Nat) (a b : Ev) : Bool :=
  let x := sgDist a.sg now
  let y := sgDist b.sg now
  decide (x < y) || (x == y && (decide (a.page < b.page) || (a.page == b.page && decide (a.code < b.code))))

/-- The first event of a list in that order. -/
def evLeast (now : Nat) : Ev → List Ev → Ev
  | e, [] => e
  | e, x :: l => evLeast now (if evBefore now x e then x else e) l

/-- An event record (Table 15-7). -/
def evRecord (e : Ev) (seq : Nat) : List Byte :=
  let body := leBytes 4 (pageNo e.page * 2 ^ 16 + e.code % 2 ^ 12 * 16 + evSev e.code) ++ leBytes 4 e.sg
    ++ leBytes 4 (e.stepN % 2 ^ 32) ++ leBytes 4 (e.stepN / 2 ^ 32 % 2 ^ 16 * 2 ^ 16 + e.epoch)
    ++ leBytes 4 e.w4 ++ leBytes 4 e.w5 ++ leBytes 4 seq
  body ++ leBytes 4 (crc32 body).toNat

def evcDirect (s : State) : Bool := bit (rg s Rg.EVC_CTRL) 30
def evcSize (s : State) : Nat := 2 ^ bits (rg s Rg.EVC_CTRL) 28 24
def evcBase (s : State) : Nat := base48 s Rg.EVC_RING_BASE_LO

/-- Records unread in a ring (R366). -/
def ringUsed (s : State) (wrReg rdReg : Nat) : Nat := (rg s wrReg - rg s rdReg).toNat

/-- A record emitted in DIRECT mode (R388). -/
def emitDirect (e : Ev) (s : State) : State :=
  let s := satAdd Rg.EVC_DDROP 1 s
  if evSev e.code < 2 then s
  else { s with evcPend := spIns e.page (max (evSev e.code) (spGet 0 e.page s.evcPend)) s.evcPend }

/-- A record emitted in RING mode (R386): written, or counted as lost, a failed write falling back to DIRECT. -/
def emitRing (e : Ev) (seq : Nat) (s : State) : State :=
  if evcSize s ≤ ringUsed s Rg.EVC_WR Rg.EVC_RD then satAdd Rg.EVC_LOST 1 s
  else
    let a := evcBase s + 32 * ((rg s Rg.EVC_WR).toNat % evcSize s)
    let r := unitStore a (evRecord e seq) s
    if r.1 then { wrapInc Rg.EVC_WR r.2 with unread := s.unread ++ [(s.gauge.toNat, evSev e.code)] }
    else wrF Rg.EVC_CTRL 30 29 3 (satAdd Rg.EVC_LOST 1 r.2)

/-- One event leaves the controller (R385). -/
def emitOne (e : Ev) (s : State) : State :=
  let seq := (rg s Rg.EVC_SEQ).toNat
  let s := wrapInc Rg.EVC_SEQ { s with evq := s.evq.erase e }
  if evcDirect s then emitDirect e s else emitRing e seq s

/-- The event that leaves next; none leaves in OFF, in DEEP or without main power, and those raised in NAP wait for the wake
(R432). -/
def nextEvent (s : State) : Option Ev :=
  match s.evq with
  | [] => none
  | e :: l => if manageable s && s.chip != .nap then some (evLeast s.gauge.toNat e l) else none

/-- EVENT_EMIT (R385). -/
def eventEmit (s : State) : State :=
  match nextEvent s with
  | some e => emitOne e s
  | none => s
def execEventEmit (s : State) : Out := .next (eventEmit s)

/-- Every event that waits leaves; `n` bounds their number. -/
def emitAll : Nat → State → State
  | 0, s => s
  | n + 1, s => emitAll n (eventEmit s)

/-- The unread records: the newest of those written, as many as the ring holds unread. -/
def unreadOf (s : State) : List (Nat × Nat) := s.unread.drop (s.unread.length - ringUsed s Rg.EVC_WR Rg.EVC_RD)

/-- COAL_TIME in gt. -/
def coalTime (s : State) : Nat := 1000 * bits (rg s Rg.EVC_CTRL) 13 0

/-- The criteria of R387 hold. -/
def evcDue (s : State) : Bool :=
  let u := ringUsed s Rg.EVC_WR Rg.EVC_RD
  let l := unreadOf s
  u != 0 && (decide (bits (rg s Rg.EVC_CTRL) 23 16 ≤ u)
    || (match l with
        | (t, _) :: _ => decide (t + coalTime s ≤ s.gauge.toNat)
        | [] => false)
    || l.any fun r => r.2 = 4)

/-- CABINET source 1: EVC_IRQ (R386 to R388). -/
def evcIrq (s : State) : Bool :=
  let c := rg s Rg.EVC_CTRL
  bit c 29 || (if bit c 30 then !s.evcPend.isEmpty else bit c 31 && evcDue s)

/-- EVC_TOP (R388). -/
def evcTop (s : State) : Word :=
  match s.evcPend.getLast? with
  | some (p, v) => word (0x80000000 + v * 0x10000 + pageNo p)
  | none => 0

/-- EVC_COAL_TIMEOUT (R387): the oldest unread record reaches COAL_TIME. -/
def evcCoalTimeout (s : State) : State :=
  match unreadOf s with
  | (t, _) :: _ => if evcDirect s then s else gaugeTo (t + coalTime s) s
  | [] => s
def execEvcCoalTimeout (s : State) : Out := .next (evcCoalTimeout s)

end Sys2Proof.Machine
end

