-- ==== Sys2Proof/Machine/Power.lean ====
section
/-! DEFINITION. Power (chapter 17): operating points, power states, wakes, the throttle, the regulators, and the supplies and
sensors that Plumb watches (section 14.4). -/

namespace Sys2Proof.Machine

/-! ### Regulator requests (R428) -/

/-- Failed attempts of a request are repeated, up to three times, each repeat counted and written as EV-0x606. -/
def regRetry (page cnt rail cmd n : Nat) (s : State) : State :=
  (List.range (min n 3)).foldl (fun s _ => raiseEv page 0x606 rail cmd (satAdd cnt 1 s)) s

/-- The fourth attempt fails: PWR_REG_FAIL and EV-0x607; a request that changes a rail drives rest. -/
def regFail (page : Nat) (avs : Bool) (rail cmd : Nat) (changes : Bool) (s : State) : State :=
  let s := if changes then
      wr Rg.PWR_REG_FAIL (word (0x80000000 + rail % 16 * 0x10000 + b2n avs * 0x100 + cmd % 256)) s
    else s
  let s := raiseEv page 0x607 0 0 s
  if changes then enterRest 5 s else s

/-! ### Operating points (R422, R423) -/

/-- Voltage of an operating point, in mV. -/
def opVolts (s : State) (k : Nat) : Nat := bits (rg s (Rg.PWR_OPn k)) 9 0
def opNow (s : State) : Nat := bits (rg s Rg.PWR_STAT) 26 24

/-- The voltage write of SET_OP fails. A clock being raised has not been relocked; for one being lowered both multiples are safe,
and no rule says at which it is left: a free value. -/
def setOpFail (k : Nat) (s : State) : State :=
  let old := opNow s
  let f := freeBits 1 s
  let s := if old < k then wrF Rg.PWR_STAT 26 24 (if f.1 = 0 then old else k) f.2 else s
  cmdEnd 0x0C resFailed (regFail Pg.AVS true 0 0 true s)

/-- SET_OP (R423): `fails` attempts of the voltage write fail; `mv` is the read-back that confirms it. -/
def setOp (tag : BitVec 16) (fails mv : Nat) : State → State :=
  command 0x0C tag [.ready, .quiesce, .test] (fun s =>
    [(fencedDom s 0x5200, rsState), (decide (3 < bits (arg0 s) 2 0), rsValue)])
    fun s =>
      let k := bits (arg0 s) 2 0
      let s := regRetry Pg.AVS Rg.AVS_RETRY 0 0 fails s
      if 4 ≤ fails then setOpFail k s
      else
        let s := wr Rg.AVS_STAT (word (0x40000000 + mv % 1024)) s
        cmdEnd 0x0C resOk (raiseEv Pg.PWR 0x603 k (opVolts s k) (wrF Rg.PWR_STAT 26 24 k s))
def execSetOp (tag : BitVec 16) (fails mv : Nat) (s : State) : Out := .next (setOp tag fails mv s)

/-! ### Chip state by command (R382) -/

/-- QUIESCE. -/
def quiesce (tag : BitVec 16) : State → State :=
  command 0x0D tag [.ready, .run] (fun _ => []) fun s => cmdEnd 0x0D resOk (setChip .quiesce s)
def execQuiesce (tag : BitVec 16) (s : State) : Out := .next (quiesce tag s)

/-- RESUME: refused unless 128 benches are mapped. -/
def resumeCmd (tag : BitVec 16) : State → State :=
  command 0x0E tag [.quiesce] (fun s => [(!mapped128 s, rsState)]) fun s => cmdEnd 0x0E resOk (setChip .ready s)
def execResume (tag : BitVec 16) (s : State) : Out := .next (resumeCmd tag s)

/-! ### Power states (R430 to R433) -/

/-- Why POWER_STATE is refused (R430). -/
def powerBad (s : State) : List (Bool × Nat) :=
  [((serviceStreams s).any fun p => (str s p.1 p.2).state ≠ .stopped, rsState), (stepHeld s, rsState),
   (s.swap.isSome || freezing s || s.restarts.any (·.cmd), rsState),
   ((List.range 8).any fun j => stackState s j = 1 || stackState s j = 2, rsState)]

/-- A power state is entered. -/
def enterPstate (k : Nat) (s : State) : State :=
  if pstate s = k then s else raiseEv Pg.PWR 0x601 k 0 (setPstate k s)

/-- NAP (R431): the benches, their trays and their pages lose their contents; the command is reported at the wake (R432). -/
def napDown (s : State) : State :=
  let s := resetRegs (fun a => pageResetDom (regCls a) (regInst a) / 0x1000 == 2 && !keptReg a && regOff a != 8) s
  raiseEv Pg.PWR 0x601 2 0 (setChip .nap (setPstate 2 { s with benches := [], ttabBusy := [] }))

/-- DEEP (R433): the keys are zeroised, EV-0x601 is the last record written, and every rail but the always-on group is switched
off. The wake detector keeps its enables. -/
def deepDown (s : State) : State :=
  let en := rg s Rg.PWR_WAKE_EN
  let s := cmdEnd 0x0B resOk (raiseEv Pg.PWR 0x601 3 0 (raiseEv Pg.CHIP 0x001 (chipCode s.chip) (chipCode .deep) s))
  let s := emitAll s.evq.length s
  wr Rg.PWR_WAKE_EN en { wipeTo .deep s with chipPrev := s.chip, bootNo := s.bootNo + 1 }

/-- POWER_STATE: ARG0 selects the state. -/
def powerState (tag : BitVec 16) : State → State :=
  command 0x0B tag [.ready, .quiesce] powerBad fun s =>
    match bits (arg0 s) 1 0 with
    | 2 => napDown s
    | 3 => deepDown s
    | k => cmdEnd 0x0B resOk (enterPstate k s)

/-- The issuer of a POWER_STATE command writes its selection first (R380). -/
def selectPower (k : Nat) (s : State) : State := pageCmd Pg.CHIP 0x048 (word k) (wrF Rg.CHIP_CMD_ARG0 1 0 k) s

/-- POWER_STATE_ACTIVE (R430). -/
def execPowerStateActive (tag : BitVec 16) (s : State) : Out := .next (powerState tag (selectPower 0 s))
/-- POWER_STATE_IDLE (R430). -/
def execPowerStateIdle (tag : BitVec 16) (s : State) : Out := .next (powerState tag (selectPower 1 s))
/-- POWER_STATE_NAP (R431). -/
def execPowerStateNap (tag : BitVec 16) (s : State) : Out := .next (powerState tag (selectPower 2 s))
/-- POWER_STATE_DEEP (R433). -/
def execPowerStateDeep (tag : BitVec 16) (s : State) : Out := .next (powerState tag (selectPower 3 s))

/-- NAP_WAKE (R432): the wake that a source began. -/
def napWake (s : State) : State :=
  if s.chip = .nap then (match s.wakeReq with
    | some k => napUp (some k) s
    | none => s)
  else s
def execNapWake (s : State) : Out := .next (napWake s)

/-- DEEP_WAKE (R433): the rails are confirmed, and the chip enters BOOT at stage 2 (R404). -/
def deepWake (r : BootRes) (s : State) : State :=
  match s.chip, s.wakeReq with
  | .deep, some k => wakeEvent (some k) (boot false r (wipeChip { s with wakeReq := none }))
  | _, _ => s
def execDeepWake (r : BootRes) (s : State) : Out := .next (deepWake r s)

/-- DEEP_WAKE_TIMEOUT (R433): a rail is not confirmed within 40 ms of the wake. -/
def deepWakeTimeout (rail : Nat) (s : State) : State :=
  if s.chip = .deep ∧ s.wakeReq.isSome = true then
    setAlert true (wr Rg.PWR_REG_FAIL (word (0x80000000 + rail % 16 * 0x10000 + 0x01)) { s with wakeReq := none })
  else s
def execDeepWakeTimeout (rail : Nat) (s : State) : Out := .next (deepWakeTimeout rail s)

/-- WAKE_PIN (Table 17-6). -/
def execWakePin (s : State) : Out := .next (wake 3 s)

/-- KNOCK_RECOGNISED (R284): on a spline in DOWN or FAULT, or in the power states of Table 17-5. -/
def knockRecognised (x : Nat) (s : State) : State :=
  if s.chip ≠ .off ∧ (linkState s x = linkDown ∨ linkState s x = linkFault ∨ s.chip = .nap ∨ s.chip = .deep ∨ pstate s = 1) then
    wake 1 (raiseEv (Pg.SPLINE x) 0x30D 0 0 s)
  else s
def execKnockRecognised (x : Nat) (s : State) : Out := .next (knockRecognised x s)

/-! ### The emergency throttle (R425) -/

/-- The arithmetic clock runs. -/
def clocked (s : State) : Bool := manageable s && s.chip != .boot && s.chip != .nap

def thrLimit (s : State) : Nat := bits (rg s Rg.PWR_THR_CTL) 11 0

/-- THROTTLE_START (R425): the estimate is `iest` A; `oc` says that PMB_ALERT_N came with IOUT_OC_WARNING of VDD_CORE. -/
def throttleStart (iest : Nat) (oc : Bool) (s : State) : State :=
  if clocked s = false then s
  else
    let s := wrF Rg.PWR_STAT 11 0 (min 0xFFF iest) s
    if bit (rg s Rg.PWR_STAT) 16 || !(oc || decide (thrLimit s < iest)) then s
    else
      let s := satAdd Rg.PWR_THR_COUNT 1 (wrF Rg.PWR_STAT 16 16 1 { s with throttled := true })
      raiseEv Pg.PWR 0x604 0 0 s
def execThrottleStart (iest : Nat) (oc : Bool) (s : State) : Out := .next (throttleStart iest oc s)

/-- THROTTLE_END (R425): the estimate has stayed below 90 % of ILIM for 10 µs, `us` after the throttle began. -/
def throttleEnd (iest us : Nat) (s : State) : State :=
  if bit (rg s Rg.PWR_STAT) 16 && decide (10 * iest < 9 * thrLimit s) then
    let s := wrF Rg.PWR_STAT 11 0 iest (wrF Rg.PWR_STAT 16 16 0 s)
    raiseEv Pg.PWR 0x605 us 0 (satAdd Rg.PWR_THR_TIME us s)
  else s
def execThrottleEnd (iest us : Nat) (s : State) : Out := .next (throttleEnd iest us s)

/-! ### Regulators, supplies and sensors (R351, R429, R436, R437, R440) -/

/-- PMB_ALERT (R429): the STATUS_WORD read shows a fault. -/
def pmbAlert (rail : Nat) (status : BitVec 16) (s : State) : State :=
  if manageable s ∧ rail < 9 ∧ status ≠ 0 then raiseEv Pg.PWR 0x608 rail status.toNat s else s
def execPmbAlert (rail : Nat) (status : BitVec 16) (s : State) : Out := .next (pmbAlert rail status s)

/-- PLUMB_VCORE: the last reading, and the highest since PORST_N. -/
def vcoreSeen (mv : Nat) (s : State) : State :=
  let v := min 0xFFFF mv
  wr Rg.PLUMB_VCORE (word (max v (bits (rg s Rg.PLUMB_VCORE) 31 16) * 2 ^ 16 + v)) s

/-- OVER_VOLTAGE (R351, R424): a reading of `mv` for 4 µs drives rest; Plumb takes the AVSBus and restores the last value, and
reads `after`. -/
def overVoltage (mv after : Nat) (hit : Option CmdHit) (s : State) : State :=
  if manageable s = false ∨ mv ≤ bits (rg s Rg.AVS_VMAX) 9 0 + 25 then s
  else
    let s := raiseEv Pg.PLUMB 0x509 mv 0 (wrF Rg.PLUMB_STAT 28 28 1 (vcoreSeen mv s))
    plumbWins 0 hit (vcoreSeen after (enterRest 3 s))
def execOverVoltage (mv after : Nat) (s : State) (hit : Option CmdHit := none) : Out := .next (overVoltage mv after hit s)

/-- PLUMB_TJ. -/
def tjSeen (sensor : Nat) (t : Int) (s : State) : State :=
  wr Rg.PLUMB_TJ (word (sensor % 64 * 256 + ofSigned 8 t)) s

/-- A sensor at or above 110 °C (R440). -/
def sensorHot (sensor : Nat) (t : Int) (s : State) : State :=
  if 110 ≤ t then raiseEv Pg.PWR 0x60A sensor (ofSigned 8 t) s else s

/-- OVER_TEMP (R351): a junction comparator reads 115 °C or above on two samples. -/
def overTemp (sensor : Nat) (t : Int) (hit : Option CmdHit) (s : State) : State :=
  if manageable s = false ∨ t < 115 then s
  else plumbWins 0 hit (enterRest 4 (raiseEv Pg.PLUMB 0x50A sensor (ofSigned 8 t) (sensorHot sensor t (tjSeen sensor t s))))
def execOverTemp (sensor : Nat) (t : Int) (s : State) (hit : Option CmdHit := none) : Out := .next (overTemp sensor t hit s)

/-- OVER_TEMP_CLEARED (R351): every sensor reads 100 °C or below; the hottest is `sensor`, at `t`. -/
def overTempCleared (sensor : Nat) (t : Int) (s : State) : State :=
  if manageable s = false ∨ 100 < t then s else restPend 4 false (tjSeen sensor t s)
def execOverTempCleared (sensor : Nat) (t : Int) (s : State) : Out := .next (overTempCleared sensor t s)

/-- SUPPLY_FAULT (R351). -/
def execSupplyFault (s : State) (hit : Option CmdHit := none) : Out :=
  .next (if s.chip = .off then s else plumbWins 0 hit (enterRest 11 s))

/-- SUPPLY_RESTORED (R351). -/
def execSupplyRestored (s : State) : Out := .next (if s.chip = .off then s else restPend 11 false s)

/-- XTAL_LOSS (R437): ALERT_N, and the gauge enters DOUBT with cause MONITOR. -/
def execXtalLoss (s : State) : Out := .next (if s.chip = .off then s else doubtIf 7 (setAlert true s))

/-- PWRGD_LOSS (R436): the lanes fall idle, the JMCs stop, and ALERT_N and REST_N are asserted; what memory held is not
preserved, and nothing goes on until PORST_N. -/
def pwrgdLoss (s : State) : State :=
  if manageable s = false then s
  else
    let s := (List.range splineEnd).foldl (fun s x => if isUp s x then setLink x linkMuted s else s) s
    let s := setAlert true (raiseEv Pg.PLUMB 0x609 0 0 s)
    { s with restN := true, powerLost := true, frozen := true, mem := [], memBad := [], bootNo := s.bootNo + 1 }
def execPwrgdLoss (s : State) : Out := .next (pwrgdLoss s)

end Sys2Proof.Machine
end

