-- ==== Sys2Proof/Machine/Security.lean ====
section
/-! DEFINITION. The security block (chapter 16): images loaded and verified while the part runs, counters and keys in fuses,
attestation, debug unlock, and the flash port. -/

namespace Sys2Proof.Machine

/-! ### SEC commands (R405, R417) -/

def secArg0 (s : State) : Word := rg s Rg.SEC_ARG0
def secArg1 (s : State) : Word := rg s Rg.SEC_ARG1
def secAddr (s : State) : Nat := base48 s Rg.SEC_ADDR_LO
def secLen (s : State) : Nat := (rg s Rg.SEC_LEN).toNat

/-- The command accepted last completes (R405, Table 16-9): RESULT is OK with code 0. -/
def secEnd (code : Nat) (s : State) : State :=
  let old := rg s Rg.SEC_STAT
  wr Rg.SEC_STAT (word (0x40000000 + b2n (code ≠ 0) * 0x10000000 + code % 16 * 0x1000000 + bits old 23 0)) s

/-- A write of SEC_CMD: refused for the reasons of `bad`; otherwise accepted, performed, and completed with the code that `run`
answers. A command completes before the next one is written, so none is ever met in progress. -/
def secCmd (opc : Nat) (tag : BitVec 16) (bad : State → List (Bool × Nat)) (run : State → Nat × State) (s : State) : State :=
  let v := word (opc * 0x1000000 + tag.toNat)
  pageCmd Pg.SEC 0x040 v (fun s =>
    match lowest (bad s) with
    | some r => refuse Pg.SEC 0x040 r v.toNat s
    | none =>
      let q := run (wr Rg.SEC_STAT (word (0x80000000 + opc * 0x10000 + tag.toNat)) s)
      secEnd q.1 q.2) s

/-- The `n` bytes at SEC_ADDR lie in the local space. -/
def secFits (s : State) (n : Nat) : Bool := decide (secAddr s + n ≤ memEnd s)

/-- Uncorrectable words in the source of a command. -/
def srcUe (s : State) (a n : Nat) : Bool :=
  !memSound s && rangeAny a n (memUe s)

/-- A little-endian field of local memory. -/
def memNat (s : State) (a n : Nat) : Nat := leNat (memBytes s a n)
def memZero (s : State) (a n : Nat) : Bool := !rangeAny a n fun x => memByte s x != 0

/-- An image in local memory as the security block finds it (Table 16-3): an image of class `c` at `a`, in `n` bytes. -/
def imgAt (s : State) (c a n : Nat) (v : Verdict) : ImgFacts :=
  let sg := memNat s (a + 9) 1
  let len := memNat s (a + 0x10) 4
  let letter := bits (rg s Rg.FUSE_REV) 15 8 - 65
  { ue := srcUe s a n,
    format := memNat s a 4 == 0xAE911A6E && memNat s (a + 4) 4 == 1 && memNat s (a + 8) 1 == c
      && sg / 4 % 32 == 0 && memZero s (a + 0xB) 1 && memZero s (a + 0x18) 40 && memZero s (a + 0x152D) 0xAD3
      && (memNat s (a + 0x14) 4).testBit letter,
    len := len, fits := decide (0x2000 + len ≤ n), hash := v.hash, ed := v.ed, ml := v.ml,
    info := { cls := memNat s (a + 8) 1, owner := decide (128 ≤ sg), key := sg % 4, svn := memNat s (a + 0xA) 1,
              version := memNat s (a + 0xC) 4, digest := v.digest } }

/-- A rejected image (Table 16-13). -/
def rejected (c code : Nat) (s : State) : State := raiseEv Pg.SEC 0x701 (c * 256 + code) (secAddr s) s

/-! ### VERIFY_LOAD and PAT_VERIFY (R406, R407) -/

/-- The unit that VERIFY_LOAD names: Plumb, or a controller of the class. -/
def loadUnit (s : State) : Nat := if bits (secArg0 s) 7 0 = 1 then plumbUnit else bits (secArg0 s) 31 16
/-- The domain code is one of the class, and 0 for PLUMB. -/
def loadUnitOk (s : State) : Bool :=
  if bits (secArg0 s) 7 0 = 1 then bits (secArg0 s) 31 16 = 0
  else (classUnits (bits (secArg0 s) 7 0)).contains (bits (secArg0 s) 31 16)
def loadSlot (s : State) : Nat := bits (secArg1 s) 0 0

/-- Why VERIFY_LOAD is refused (R405, R406). -/
def verifyLoadBad (s : State) : List (Bool × Nat) :=
  let c := bits (secArg0 s) 7 0
  [([2, 8, 15].contains c, rsState),
   (loadUnitOk s && (fwUnit s (loadUnit s)).run = some (loadSlot s), rsState),
   (!([2, 8, 15].contains c) && !loadUnitOk s, rsValue),
   (!secFits s (secLen s), rsValue),
   (s.restarts.any fun r => r.dom = loadUnit s && r.cmd, rsBusy)]

/-- The image is verified into the slot, whose OK bit is clear meanwhile. -/
def loadImage (v : Verdict) (s : State) : Nat × State :=
  let c := bits (secArg0 s) 7 0
  let f := imgAt s c (secAddr s) (secLen s) v
  let s := modFw (loadUnit s) (fun u => u.setSlot (loadSlot s) none) s
  let k := imgCode s f
  if k = 0 then (0, modFw (loadUnit s) (fun u => u.setSlot (loadSlot s) (some f.info)) s)
  else (k, rejected c k (memUeReport (secAddr s) (secLen s) s))

def verifyLoad (tag : BitVec 16) (v : Verdict) : State → State := secCmd 0x01 tag verifyLoadBad (loadImage v)
/-- VERIFY_LOAD (R406). -/
def execVerifyLoad (tag : BitVec 16) (v : Verdict) (s : State) : Out := .next (verifyLoad tag v s)

/-- Why PAT_VERIFY is refused: the image lies in the carve-out, its header 4 KiB aligned. -/
def patVerifyBad (s : State) : List (Bool × Nat) :=
  [(decide (secAddr s % 4096 ≠ 0), rsValue), (decide (carveEnd < secAddr s + secLen s), rsValue)]

/-- The pattern image is verified in place, and the buffer recorded. -/
def patImage (v : Verdict) (s : State) : Nat × State :=
  let a := secAddr s
  let f := imgAt s 8 a (secLen s) v
  let k := imgCode s f
  if k = 0 then
    (0, wr Rg.SEC_PAT_REC_LO (word a) (wr Rg.SEC_PAT_REC_HI (word (0x80000000 + a / 2 ^ 32))
      (wr Rg.SEC_PAT_REC_LEN (word (secLen s)) { s with patImg := some f.info })))
  else (k, rejected 8 k (memUeReport a (secLen s) s))

def patVerify (tag : BitVec 16) (v : Verdict) : State → State := secCmd 0x02 tag patVerifyBad (patImage v)
/-- PAT_VERIFY (R407). -/
def execPatVerify (tag : BitVec 16) (v : Verdict) (s : State) : Out := .next (patVerify tag v s)

/-! ### Fuses (R408 to R410) -/

/-- The images that run in the instances of a class: none where an instance runs none. -/
def classRuns (s : State) (c : Nat) : List (Option ImgInfo) :=
  if c = 2 then [s.cabImg] else if c = 8 then [s.patImg] else (classUnits c).map fun u => (fwUnit s u).running

/-- The image that runs is at `n` or above in every instance of the class. -/
def runsAtLeast (s : State) (c n : Nat) : Bool :=
  classRuns s c != [] && (classRuns s c).all fun i => match i with
    | some i => decide (n ≤ i.svn)
    | none => false

/-- An image below security version `n` loses its OK bit. -/
def dropOld (n : Nat) (i : Option ImgInfo) : Option ImgInfo := i.filter fun i => decide (n ≤ i.svn)

/-- ARB_ADVANCE (R408). -/
def arbAdvance (tag : BitVec 16) : State → State :=
  secCmd 0x03 tag (fun s =>
    let c := bits (secArg0 s) 7 0
    let n := bits (secArg0 s) 15 8
    [(decide (15 < c ∨ 64 < n ∨ n ≤ arbOf s c), rsValue), (!runsAtLeast s c n, rsState)])
    fun s =>
      let c := bits (secArg0 s) 7 0
      let n := bits (secArg0 s) 15 8
      let s := wr (Rg.FUSE_ARBn c) (word n) s
      let s := (classUnits c).foldl (fun s u => modFw u (fun x => { x with a := dropOld n x.a, b := dropOld n x.b }) s) s
      (0, raiseEv Pg.SEC 0x703 c n s)
def execArbAdvance (tag : BitVec 16) (s : State) : Out := .next (arbAdvance tag s)

/-- Bit `k` of FUSE_KEYS is blown. -/
def blowKey (k : Nat) (s : State) : State := wr Rg.FUSE_KEYS (rg s Rg.FUSE_KEYS ||| word (2 ^ k)) s

/-- PROG_OWNER (R409): the 48-byte hash at SEC_ADDR. -/
def progOwner (tag : BitVec 16) : State → State :=
  secCmd 0x06 tag (fun s =>
    [(ownerSet s (bits (secArg0 s) 1 0), rsState),
     ((match s.cabImg with
       | some i => i.owner
       | none => false) && s.chip != .test, rsState),
     (!secFits s 48, rsValue)])
    fun s =>
      let k := bits (secArg0 s) 1 0
      if srcUe s (secAddr s) 48 then (8, memUeReport (secAddr s) 48 s)
      else (0, raiseEv Pg.SEC 0x704 (256 + k) 0
        (blowKey (8 + k) { s with ownerKeys := spIns k (memBytes s (secAddr s) 48) s.ownerKeys }))
def execProgOwner (tag : BitVec 16) (s : State) : Out := .next (progOwner tag s)

/-- Every image that runs, or that sits in a slot with OK set. -/
def liveImages (s : State) : List ImgInfo :=
  (s.fw.flatMap fun e => e.2.a.toList ++ e.2.b.toList) ++ s.cabImg.toList

/-- REVOKE (R410): slot ARG0[1:0] of kind ARG0[8]. -/
def revoke (tag : BitVec 16) : State → State :=
  secCmd 0x07 tag (fun s =>
    let owner := bit (secArg0 s) 8
    let k := bits (secArg0 s) 1 0
    [(owner && !ownerSet s k, rsState), ((liveImages s).any fun i => i.owner = owner && i.key = k, rsState)])
    fun s =>
      let owner := bit (secArg0 s) 8
      let k := bits (secArg0 s) 1 0
      (0, raiseEv Pg.SEC 0x704 (b2n owner * 256 + k) 0 (blowKey ((if owner then 16 else 0) + k) s))
def execRevoke (tag : BitVec 16) (s : State) : Out := .next (revoke tag s)

/-! ### Identity and attestation (R411, R412) -/

/-- A write of the security block to local memory, judged as one of the cabinet's; no rule gives the code of one that is not
accepted. -/
def secWrite (parts : List (Nat × List Byte)) (done : State → State) (s : State) : Nat × State :=
  if parts.all fun p => unitWriteOk s p.1 p.2.length then (0, done (parts.foldl (fun s p => memPutAll p.1 p.2 s) s))
  else
    let k := freeBits 3 s
    (1 + k.1, k.2)

/-- IDENTITY (R411): the two public keys. -/
def identity (tag : BitVec 16) : State → State :=
  secCmd 0x05 tag (fun s => [(!secFits s 1984, rsValue)])
    fun s => secWrite [(secAddr s, (List.range 1984).map Config.identityKey)] id s
def execIdentity (tag : BitVec 16) (s : State) : Out := .next (identity tag s)

/-- The block of a class in a report (Table 16-5). -/
def classBlock (run : Nat) (a b : Option ImgInfo) (cur : Option ImgInfo) : List Byte :=
  let of (i : Option ImgInfo) (f : ImgInfo → Nat) : Nat := match i with
    | some i => f i
    | none => 0
  leBytes 1 run ++ leBytes 1 (b2n a.isSome + 2 * b2n b.isSome) ++ leBytes 1 (of a (·.svn)) ++ leBytes 1 (of b (·.svn))
    ++ leBytes 4 (of a (·.version)) ++ leBytes 4 (of b (·.version)) ++ leBytes 4 0
    ++ (match cur with
        | some i => (i.digest ++ List.replicate 48 0).take 48
        | none => List.replicate 48 0)

/-- The block of class `c`: of its first instance where a class has several. -/
def reportClass (s : State) (c : Nat) : List Byte :=
  if c = 2 then
    (if bit (rg s Rg.BOOT_SET) 2 then classBlock 1 none s.cabImg s.cabImg else classBlock 0 s.cabImg none s.cabImg)
  else if c = 8 then classBlock 0 s.patImg none s.patImg
  else match classUnits c with
    | u :: _ =>
      let x := fwUnit s u
      classBlock (x.run.getD 0) x.a x.b x.running
    | [] => classBlock 0 none none none

/-- Bytes 0x048 to 0x49F of the report (Table 16-5). -/
def reportBody (s : State) : List Byte :=
  ((List.range 4).flatMap fun n => leBytes 4 (rg s (Rg.SEC_DEVICE_IDn n)).toNat)
    ++ leBytes 4 (rg s Rg.FUSE_REV).toNat
    ++ leBytes 4 (chipCode s.chip * 2 ^ 28 + s.bootsel % 4 * 2 ^ 26 + bits (rg s Rg.DBG_STAT) 7 0 * 2 ^ 16
        + bits (rg s Rg.FUSE_DBG_COUNT) 5 0)
    ++ leBytes 4 (memberId s) ++ leBytes 4 (rg s (Rg.LKD_EPOCH 0)).toNat ++ leBytes 8 s.gauge.toNat
    ++ ((List.range 16).flatMap fun c => leBytes 1 (arbOf s c))
    ++ leBytes 4 (rg s Rg.FUSE_KEYS).toNat ++ List.replicate 28 0
    ++ (List.range 16).flatMap (reportClass s)

/-- ATTEST (R412): the report, around the nonce that the cabinet has placed. -/
def attest (tag : BitVec 16) : State → State :=
  secCmd 0x04 tag (fun s => [(!secFits s 4608, rsValue)])
    fun s =>
      let a := secAddr s
      if srcUe s (a + 8) 64 then (8, memUeReport (a + 8) 64 s)
      else
        let k := s.free
        let tail := reportBody s ++ (List.range (64 + 3309)).map (Config.signature k) ++ List.replicate 51 0
        secWrite [(a, leBytes 4 0xAE91A77E ++ leBytes 4 1), (a + 0x48, tail)] (raiseEv Pg.SEC 0x705 0 0)
          { s with free := k + 1 }
def execAttest (tag : BitVec 16) (s : State) : Out := .next (attest tag s)

/-! ### Debug unlock (R414, R415) -/

/-- Code of a token at `a`: the checks of R399 that apply, then the binding, then the count. -/
def tokenCode (s : State) (a : Nat) (v : Verdict) : Nat :=
  if srcUe s a 5408 then 8
  else if memNat s a 4 ≠ 0xAE91DB60 ∨ memZero s (a + 0x2C) 4 = false then 1
  else if !v.hash then 2
  else if keyRevoked s false (memNat s (a + 4) 4 % 4) then 3
  else if !v.ed then 4
  else if !v.ml then 5
  else if (List.range 4).any (fun n => memNat s (a + 8 + 4 * n) 4 ≠ (rg s (Rg.SEC_DEVICE_IDn n)).toNat
      || memNat s (a + 0x18 + 4 * n) 4 ≠ (rg s (Rg.DBG_NONCEn n)).toNat) then 10
  else if 32 ≤ bits (rg s Rg.FUSE_DBG_COUNT) 5 0 then 9
  else 0

/-- A full chip reset that does not wait for a drain: nothing can drain once the keys are gone. -/
def hardReset (s : State) : State :=
  if resetting s 0 then s else startReset 0 (askReset 0 false { s with chipTries := 1 })

/-- An accepted token: one unlock fuse is blown, the keys are zeroised and the splines fall idle, the scopes are open, and a full
chip reset follows. -/
def unlock (scopes : Nat) (s : State) : State :=
  let s := wr Rg.FUSE_DBG_COUNT (word (bits (rg s Rg.FUSE_DBG_COUNT) 5 0 + 1)) s
  let s := { s with mem := [], memBad := [], bootNo := s.bootNo + 1 }
  let s := (List.range splineEnd).foldl (fun s x => if linkState s x = linkDown then s else setLink x linkDown s) s
  let s := raiseEv Pg.DBG 0x706 scopes 0 (wr Rg.DBG_STAT (rg s Rg.DBG_STAT ||| word scopes) s)
  hardReset s

/-- DBG_UNLOCK (R415): the token at SEC_ADDR. The nonce is replaced whatever the verdict (R414). -/
def dbgUnlock (tag : BitVec 16) (v : Verdict) : State → State :=
  secCmd 0x08 tag (fun s => [(stepHeld s, rsState), (!secFits s 5408, rsValue)])
    fun s =>
      let a := secAddr s
      let k := tokenCode s a v
      let scopes := memNat s (a + 0x28) 4 % 8
      let s := newNonce s
      if k = 0 then (0, unlock scopes s)
      else (k, raiseEv Pg.DBG 0x707 k 0 (if k = 8 then memUeReport a 5408 s else s))
def execDbgUnlock (tag : BitVec 16) (v : Verdict) (s : State) : Out := .next (dbgUnlock tag v s)

/-! ### The flash port (R419) -/

def xspiMem (s : State) : Nat := base48 s Rg.BOOT_XSPI_MEM_LO
def xspiLen (s : State) : Nat := (rg s Rg.BOOT_XSPI_LEN).toNat

/-- A write of BOOT_XSPI_CTL with an operation: refused while the chip is in BOOT; otherwise performed, and completed with DONE
and, where `run` says so, FAIL. -/
def xspiOp (op : Nat) (run : State → Bool × State) (s : State) : State :=
  pageCmd Pg.BOOT 0x050 (word op) (fun s =>
    if s.chip = .boot then refuse Pg.BOOT 0x050 rsState op s
    else
      let q := run s
      wr Rg.BOOT_XSPI_CTL (word (0x40000000 + b2n q.1 * 0x20000000)) q.2) s

/-- The bytes of a flash operation lie in the local space. -/
def xspiFits (s : State) : Bool := decide (xspiMem s + xspiLen s ≤ memEnd s)

/-- XSPI_READ (R419): `data` is what the flash holds at BOOT_XSPI_ADDR, and `fail` says that the transfer failed. -/
def xspiRead (data : List Byte) (fail : Bool) : State → State :=
  xspiOp 1 fun s =>
    if fail || !xspiFits s || !unitWriteOk s (xspiMem s) (xspiLen s) then (true, s)
    else (false, memPutAll (xspiMem s) (data.take (xspiLen s)) s)
def execXspiRead (data : List Byte) (fail : Bool) (s : State) : Out := .next (xspiRead data fail s)

/-- XSPI_PROGRAM (R419): the bytes go to the flash. -/
def xspiProgram (fail : Bool) : State → State :=
  xspiOp 2 fun s =>
    if !xspiFits s || srcUe s (xspiMem s) (xspiLen s) then (true, if xspiFits s then memUeReport (xspiMem s) (xspiLen s) s else s)
    else (fail, { s with xspiOut := memBytes s (xspiMem s) (xspiLen s) })
def execXspiProgram (fail : Bool) (s : State) : Out := .next (xspiProgram fail s)

/-- XSPI_ERASE (R419). -/
def xspiErase (fail : Bool) : State → State := xspiOp 3 fun s => (fail, s)
def execXspiErase (fail : Bool) (s : State) : Out := .next (xspiErase fail s)

end Sys2Proof.Machine
end

