-- ==== Sys2Proof/Machine/RegRead.lean ====
section
/-! DEFINITION. Reads of registers: the fields that show other parts of the state, the latch of R8, and fields that a read
clears (R10). -/

namespace Sys2Proof.Machine

/-- A field of a word at bit `lo`. -/
def fld (lo v : Nat) : Nat := v * 2 ^ lo

/-! ### What a register shows -/

/-- FENCE (Table 18-5). -/
def viewFence (s : State) (cls i : Nat) : Word :=
  let d := pageFenceDom cls i
  word (d + fld 31 (b2n (fencedDom s d)) + fld 30 (b2n (s.fencedPl.any (domHolds · d))))

/-- FW_SLOT (Table 18-8): 0 on a page without a controller, and while its controller has not started (R402). -/
def viewFwSlot (s : State) (cls i : Nat) : Word :=
  let u := fwUnit s (0x5000 + cls * 16 + i)
  match u.running with
  | some img =>
    if (pageCaps cls).testBit 0 then
      word (fld 31 (b2n u.a.isSome) + fld 30 (b2n u.b.isSome) + fld 16 (u.run.getD 0) + img.version % 2 ^ 16)
    else 0
  | none => 0

/-- A register of the page header. -/
def viewHeader (s : State) (a : Nat) : Word :=
  let page := regPage a
  let cls := regCls a
  match regOff a with
  | 0x008 =>
    if cls = 0 then word (chipCode s.chipPrev * 16 + chipCode s.chip)
    else if cls = 2 ∨ cls = 3 ∨ cls = 4 then rg s (Rg.STATE (Pg.BENCH (regInst a)))
    else rg s a
  | 0x010 => viewFence s cls (regInst a)
  | 0x014 => rg s a ||| word (b2n (bit (rg s (Rg.ERR_FIRST page)) 31))
  | 0x030 => viewFwSlot s cls (regInst a)
  | _ => rg s a

/-- Two clamps in a word (Tables 6-7, 6-10). -/
def clampPair (m : Sparse (BitVec 16)) (n : Nat) : Word :=
  word ((spGet 0 (2 * n) m).toNat + fld 16 (spGet 0 (2 * n + 1) m).toNat)

/-- Registers of the PLANE page (Tables 5-8, 5-9): an instruction is over once it has issued, so none is in progress, and STREAM says
so once the first has ended. -/
def viewPlane (s : State) (a : Nat) : Word :=
  let x := bench s (regInst a)
  match regOff a with
  | 0x040 => word (fld 16 ((x.outfeed.filter (·.visible)).length) + fld 8 (bits (rg s a) 9 8))
  | 0x048 => rg s a ||| word (fld 16 (b2n x.f.keyOk) + fld 17 (b2n x.b.keyOk) + fld 18 (b2n x.u.keyOk))
  | _ => rg s a

/-- Registers of the SEQ page (Table 6-7, Table 18-10). -/
def viewSeq (s : State) (a : Nat) : Word :=
  let x := bench s (regInst a)
  let off := regOff a
  if off = 0x044 then word (strCode x.f.state + fld 4 (strCode x.b.state) + fld 8 (strCode x.u.state))
  else if off = 0x050 then word x.f.pc
  else if off = 0x054 then word x.b.pc
  else if off = 0x058 then word x.u.pc
  else if 0x400 ≤ off ∧ off < 0x600 then clampPair x.clamps ((off - 0x400) / 4)
  else rg s a

/-- TRAY_SB_STAT (Table 18-15). -/
def viewTray (s : State) (a : Nat) : Word :=
  let x := bench s (regInst a)
  if regOff a = 0x048 then
    word (fld 31 (b2n (allStreams.any fun t => (x.str t).stall == some .tray)) + (x.tickets.filter (·.sb.isSome)).length)
  else rg s a

/-- HOLD_MAPn (Table 6-9). -/
def viewHold (s : State) (a : Nat) : Word :=
  let off := regOff a
  if 0x080 ≤ off ∧ off < 0x100 then
    word (leNat ((List.range 4).map fun k => BitVec.ofNat 8 (s.benchMap.getD (off - 0x080 + k) 0)))
  else rg s a

/-- Registers of the SPLINE page (Tables 11-11, 11-13). -/
def viewSpline (s : State) (a : Nat) : Word :=
  let p := spline s (regInst a)
  match regOff a with
  | 0x044 => putBits (rg s a) 6 0 p.rbuf.length
  | 0x088 => putBits (rg s a) 0 0 (b2n (pairReady p))
  | _ => rg s a

/-- CUT_ENTn (R464). -/
def viewCut (s : State) (a : Nat) : Word :=
  let off := regOff a
  if 0x800 ≤ off then
    match (spline s (regInst a)).active with
    | some l => l.ents.getD ((off - 0x800) / 4) 0
    | none => 0
  else rg s a

/-- STATE of Table 13-1. -/
def stepCode : StepState → Nat
  | .none => 0 | .opened => 1 | .run => 2 | .close => 3 | .sealed => 4 | .committed => 5 | .void => 6

/-- Registers of the SEALU page (Tables 2-3, 12-11, 13-7). -/
def viewSealu (s : State) (a : Nat) : Word :=
  match regOff a with
  | 0x04C => putBits (putBits (rg s a) 22 16 (childrenIn s).length) 6 0 (childCtxs s).length
  | 0x050 => word s.cause
  | 0x0A8 => s.wsum.extractLsb' 0 32
  | 0x0AC => s.wsum.extractLsb' 32 32
  | 0x0C4 => putBits (rg s a) 31 29 (stepCode s.stepSt)
  | 0x0D0 => word s.stepNo
  | 0x0D4 => word (fld 31 (b2n (s.stepSt ≠ .none)) + s.stepNo / 2 ^ 32 % 2 ^ 16)
  | _ => rg s a

/-- Registers of the GAUGE page (Table 10-7). -/
def viewGauge (s : State) (a : Nat) : Word :=
  match regOff a with
  | 0x048 => s.gauge.extractLsb' 0 32
  | 0x04C => s.gauge.extractLsb' 32 32
  | 0x05C => rg (holdLength s) a
  | _ => rg s a

/-- The cabinet's interrupt sources (R374, Table 18-16). A transmit descriptor is completed from its sending until the cabinet
hands the ring's last entries over again. -/
def cabIrq (s : State) : Nat :=
  let txSize := 2 ^ bits (rg s Rg.MGP_TX_CTL) 20 16
  fld 1 (b2n (evcIrq s)) + fld 2 (b2n (rg s Rg.MGP_RX_WR != rg s Rg.MGP_RX_RD))
    + fld 3 (b2n (rg s Rg.MGP_TX_RD != 0 && decide (ringUsed s Rg.MGP_TX_WR Rg.MGP_TX_RD < txSize)))
    + fld 4 (b2n (rg s Rg.MGP_CQ_WR != rg s Rg.MGP_CQ_RD)) + fld 5 (b2n (bit (rg s Rg.COMMAND_STATUS) 30))

/-- PLUMB_DOM_STAT (Table 14-9). -/
def plumbDomStat (s : State) : Nat :=
  let ds := [0x1000, 0x3000, 0x3001, 0x4000]
  (List.range 4).foldl (fun v k =>
    let d := ds.getD k 0
    v + fld k (b2n (fencedDom s d)) + fld (8 + k) (b2n (s.resets.any fun r => r.running && domHolds r.dom d))) 0
    + fld 16 (s.chipTries % 4)

/-- What the register at management offset `a` shows. -/
def view (s : State) (a : Nat) : Word :=
  if regOff a < 0x40 then viewHeader s a
  else match regCls a with
    | 0x02 => viewPlane s a
    | 0x03 => viewSeq s a
    | 0x04 => viewTray s a
    | 0x08 => viewHold s a
    | 0x09 => if 0x100 ≤ regOff a then clampPair s.gclamps ((regOff a - 0x100) / 4) else rg s a
    | 0x10 => viewSpline s a
    | 0x13 => viewCut s a
    | 0x14 => viewSealu s a
    | 0x18 => viewGauge s a
    | 0x1C => if a = Rg.EVC_TOP then evcTop s else rg s a
    | 0x1D => if a = Rg.CAB_IRQ then word (cabIrq s) else rg s a
    | 0x24 => if a = Rg.PLUMB_DOM_STAT then word (plumbDomStat s) else rg s a
    | _ => rg s a

/-! ### Reads (R7 to R10, R375, R449) -/

/-- Low words of the 64-bit pairs of a class (R8). -/
def pairOffs (cls : Nat) : List Nat :=
  match cls with
  | 0x01 => [0x208, 0x248, 0x280] ++ (List.range 16).flatMap fun n => [0x408 + 32 * n, 0x410 + 32 * n, 0x418 + 32 * n]
  | 0x02 => [0x068, 0x070]
  | 0x03 => [0x060, 0x070, 0x078, 0x080, 0x130]
  | 0x08 => [0x04C, 0x060, 0x068, 0x070, 0x078]
  | 0x0C => 0x050 :: (List.range 64).map fun n => 0x400 + 16 * n
  | 0x10 => [0x080]
  | 0x11 => [0x088]
  | 0x13 => [0x048, 0x050]
  | 0x14 => [0x060, 0x068, 0x090, 0x0A8, 0x0C8, 0x0D0, 0x0D8, 0x0E8, 0x0F4]
  | 0x18 => [0x048, 0x050, 0x068]
  | 0x19 => [0x048]
  | 0x1C => [0x048]
  | 0x1E => [0x044, 0x050, 0x070, 0x090]
  | 0x28 => [0x050, 0x070]
  | 0x2A => [0x060]
  | 0x2C => [0x048]
  | _ => []

def pairLow (a : Nat) : Bool := (pairOffs (regCls a)).contains (regOff a)

/-- A source stops being pending in DIRECT mode (R388): at the clearing of its ERR_FIRST.VALID, or, if it raised events of
severity 2 alone, at a read of its REFUSED or ERR_COUNT. -/
def evcSettle (page : Nat) (cleared : Bool) (s : State) : State :=
  match spFind page s.evcPend with
  | some v => if cleared || v = 2 then { s with evcPend := spDel page s.evcPend } else s
  | none => s

/-- What the model does not keep: the fill of the grain buffers (R128), which the prefetcher fills from the instruction blocks that
the bench's streams hold, 0 where none holds any; and LINK_UP and TRAINING of the management port, the present condition of its
lane (R448; log entry 67). -/
def timedRead (a : Nat) (s : State) : Word × State :=
  if regCls a = 2 ∧ regOff a = 0x048 ∧ (allStreams.any fun t => !((bench s (regInst a)).str t).blocks.isEmpty) = true then
    let f := freeBits 8 s
    (putBits (view s a) 4 0 (f.1 % 17), f.2)
  else if a = Rg.MGP_STAT then
    let f := freeBits 2 s
    (word (f.1 * 2 ^ 30), f.2)
  else (view s a, s)

/-- A read of a register: its value, and what the read changes. The high word of a pair is the latched one while a latch stands
(R8). -/
def readReg (a : Nat) (s : State) : Word × State :=
  match rowAt a with
  | none => (0, s)
  | some r =>
    let q := timedRead a s
    let v := (spFind a s.latch).getD q.1
    let s := q.2
    let s := if pairLow a then { s with latch := spIns (a + 4) (view s (a + 4)) s.latch } else s
    let s := if r.rc = 0 then s else wr a (rg s a &&& ~~~(word r.rc)) s
    (v, if regOff a = 0x020 ∨ regOff a = 0x024 then evcSettle (regPage a) false s else s)

/-- The page at an offset is populated (R447). -/
def pageThere (a : Nat) : Bool := decide (regInst a < pageCount (regCls a))

/-- An access of a width other than an aligned 32 bits (R7). -/
def widthBad (a width : Nat) : Bool := decide (width ≠ 4 ∨ a % 4 ≠ 0)

/-- The page that records the refusal of an access: its own, or the CHIP page where none is populated (R375). -/
def refusalPage (a : Nat) : Nat := if pageThere a then regPage a else Pg.CHIP

/-- A load of the cabinet from the management space, at offset `a`. -/
def cabRead (a width : Nat) (s : State) : State :=
  if !manageable s then s
  else if 2 ^ 26 ≤ a then { s with cabFault := true }
  else if widthBad a width then { refuse (refusalPage a) (regOff a) rsWidth 0 s with rdata := 0, cabFault := false }
  else
    let q := readReg a s
    { q.2 with rdata := q.1, cabFault := false }

/-- LOW_WORD_LATCH (R8). -/
def execLowWordLatch (a width : Nat) (s : State) : Out := .next (cabRead a width s)
/-- READ_TO_CLEAR (R10). -/
def execReadToClear (a width : Nat) (s : State) : Out := .next (cabRead a width s)

end Sys2Proof.Machine
end

