-- ==== Sys2Proof/Machine/Manage.lean ====
section
/-! DEFINITION. The management port (section 15.7) and the telemetry unit (section 15.6). -/

namespace Sys2Proof.Machine

/-! ### Descriptor rings (R390, Tables 15-12 and 15-14) -/

/-- Registers of a ring: its base, its control, its write and its read counter. -/
structure MgpRing where
  base : Nat
  ctl  : Nat
  wrs  : Nat
  rds  : Nat

def rxRing : MgpRing := { base := Rg.MGP_RX_BASE_LO, ctl := Rg.MGP_RX_CTL, wrs := Rg.MGP_RX_WR, rds := Rg.MGP_RX_RD }
def txRing : MgpRing := { base := Rg.MGP_TX_BASE_LO, ctl := Rg.MGP_TX_CTL, wrs := Rg.MGP_TX_WR, rds := Rg.MGP_TX_RD }
def cqRing : MgpRing := { base := Rg.MGP_CQ_BASE_LO, ctl := Rg.MGP_CQ_CTL, wrs := Rg.MGP_CQ_WR, rds := Rg.MGP_CQ_RD }

def ringOn (r : MgpRing) (s : State) : Bool := bit (rg s r.ctl) 31
def ringSize (r : MgpRing) (s : State) : Nat := 2 ^ bits (rg s r.ctl) 20 16
/-- Address of the descriptor that a counter names. -/
def descAt (r : MgpRing) (n : Word) (s : State) : Nat := base48 s r.base + 32 * (n.toNat % ringSize r s)

/-- Bytes of a frame: addresses and EtherType most significant octet first. PRESUMED (IEEE 802.3), log entry 28. -/
def frameBytes (f : Frame) : List Byte :=
  (leBytes 6 f.dst).reverse ++ (leBytes 6 f.src).reverse ++ (leBytes 2 f.etype).reverse ++ f.pay

/-- Largest frame in a receive buffer. -/
def frameMax : Nat := 2048

/-- Bytes 8 to 31 of a descriptor that the part hands back (Table 15-12): its length and status, OWN clear, and the stamp: the
gauge at the message timestamp point and `tenth` tenths of a gt (R246). -/
def descTail (len status tenth : Nat) (s : State) : List Byte :=
  leBytes 2 len ++ leBytes 2 status ++ leBytes 1 (tenth % 10) ++ leBytes 3 0 ++ leBytes 8 s.gauge.toNat ++ leBytes 8 0

/-- The part owns the descriptor at `d`. -/
def descOwned (s : State) (d : Nat) : Bool := (leNat (memBytes s (d + 10) 2)).testBit 15
def descBuffer (s : State) (d : Nat) : Nat := leNat (memBytes s d 8) % 2 ^ 48

def dropFrame (s : State) : State := satAdd Rg.MGP_DROP 1 s

/-- A frame goes into a ring, or is dropped and counted: too long, a CRC error, or a ring that is off, full or without a
descriptor to fill. -/
def queueFrame (r : MgpRing) (f : Frame) (t : Nat) (s : State) : State :=
  let bs := frameBytes f
  let d := descAt r (rg s r.wrs) s
  let a := descBuffer s d
  if !f.crcOk || decide (frameMax < bs.length) || !ringOn r s || decide (ringSize r s ≤ ringUsed s r.wrs r.rds)
      || rangeAny d 32 (memUe s) || !descOwned s d || !unitWriteOk s a bs.length || !unitWriteOk s d 32 then dropFrame s
  else wrapInc r.wrs (memPutAll (d + 8) (descTail bs.length 0 t s) (memPutAll a bs s))

/-! ### Command frames (R391, Table 15-13) -/

/-- MGP_MAC. -/
def stationMac (s : State) : Nat := (rg64 s Rg.MGP_MAC_LO).toNat % 2 ^ 48
def commandEtype : Nat := 0x88B5

/-- Payload of a STATUS_RESP (Table 15-13). -/
def statusPay (tag : BitVec 16) (s : State) : List Byte :=
  leBytes 1 4 ++ leBytes 1 1 ++ leBytes 2 tag.toNat
    ++ leBytes 4 (chipCode s.chip * 2 ^ 28 + bits (rg s Rg.PLUMB_REST_CAUSE) 7 0 * 2 ^ 16)
    ++ leBytes 4 (view s Rg.PLUMB_STAT).toNat ++ leBytes 4 (view s Rg.SEAL_STEP_STAT).toNat
    ++ leBytes 8 ((rg64 s Rg.SEAL_LAST_COMMIT_LO).toNat % 2 ^ 48) ++ leBytes 2 0

/-- STATUS_REQ (R391): answered by hardware, to the sender. -/
def statusReq (tag : BitVec 16) (src : Nat) (s : State) : State :=
  if !manageable s then s
  else { s with mgpTx := frameBytes { dst := src, src := stationMac s, etype := commandEtype, pay := statusPay tag s,
                                      crcOk := true } }
def execStatusReq (tag : BitVec 16) (src : Nat) (s : State) : Out := .next (statusReq tag src s)

/-- WAKE (R391): acted on in NAP and DEEP, and ignored in any other state. -/
def wakeFrame (s : State) : State := if s.chip = .nap ∨ s.chip = .deep then wake 2 s else s
def execWake (s : State) : Out := .next (wakeFrame s)

/-- A command frame, by its TYPE. -/
def commandFrame (f : Frame) (t : Nat) (s : State) : State :=
  let b (k : Nat) : Nat := (f.pay.getD k 0).toNat
  match b 0 with
  | 3 => statusReq (BitVec.ofNat 16 (b 2 + 256 * b 3)) f.src s
  | 5 => wakeFrame s
  | 1 | 2 | 4 => queueFrame cqRing f t s
  | _ => s

/-- MGP_FRAME_RECEIVE (R390): a frame arrives, its message timestamp point at `t` tenths of a gt or, where the gauge has passed
that, now. In DEEP the receiver runs for wake frames alone. -/
def mgpFrameReceive (f : Frame) (t : Nat) (s : State) : State :=
  let command := f.etype = commandEtype ∧ f.dst = stationMac s
  if s.chip = .off ∨ s.powerLost = true then s
  else if s.chip = .deep then
    (if command ∧ f.crcOk = true ∧ f.pay.getD 0 0 = 5 then wakeFrame s else s)
  else if command ∧ f.crcOk = true then commandFrame f t (gaugeTo (t / 10) s)
  else queueFrame rxRing f t (gaugeTo (t / 10) s)
def execMgpFrameReceive (f : Frame) (t : Nat) (s : State) : Out := .next (mgpFrameReceive f t s)

/-- MGP_TRANSMIT (R390): the next descriptor of the transmit ring is sent and handed back, stamped at `t` tenths of a gt; a buffer
that cannot be read is reported as dropped. -/
def mgpTransmit (t : Nat) (s : State) : State :=
  let r := txRing
  let s := if manageable s then gaugeTo (t / 10) s else s
  let d := descAt r (rg s r.rds) s
  let n := leNat (memBytes s (d + 8) 2)
  let a := descBuffer s d
  if !manageable s || !ringOn r s || rg s r.wrs == rg s r.rds || rangeAny d 32 (memUe s) || !descOwned s d
      || !unitWriteOk s d 32 then s
  else if memEnd s < a + n ∨ rangeAny a n (memUe s) = true then
    wrapInc r.rds (memPutAll (d + 8) (descTail n 1 t s) (if memEnd s < a + n then s else memUeReport a n s))
  else wrapInc r.rds (memPutAll (d + 8) (descTail n 0 t s) { s with mgpTx := memBytes s a n })
def execMgpTransmit (t : Nat) (s : State) : Out := .next (mgpTransmit t s)

/-! ### Telemetry (R389) -/

/-- Counts since the boot of the fields of `telKey`. -/
def telTotals (s : State) : Sparse Nat := telSum s.telLost s.regs

/-- A count `n` in the `w` bits of field `k`; no rule says what a count beyond them shows. -/
def telShow (s : State) (k w n : Nat) : Nat := if n < 2 ^ w then n else (Config.freeWord (s.free + k)).toNat % 2 ^ w

/-- What field `k` has counted in the interval that ends now. -/
def telSince (s : State) (k : Nat) : Nat := spGet 0 k (telTotals s) - spGet 0 k s.telBase

/-- That count in `w` bits. -/
def telCount (s : State) (k w : Nat) : Nat := telShow s k w (telSince s k)

/-- Interlock stalls of the interval, summed over the benches in service (Tables 15-4, 15-10). -/
def telStalls (s : State) : Nat :=
  telShow s 66 32 (((List.range physEnd).filter fun b => blkState s (Pg.BENCH b) = 2 || blkState s (Pg.BENCH b) = 3).foldl
    (fun n b => n + telSince s (70 + b)) 0)

/-- A spline's entry in a record. -/
def telSpline (s : State) (x : Nat) : List Byte :=
  let st := rg s (Rg.SPL_STAT x)
  let ce := (List.range 9).foldl (fun n y => n + (rg s (Rg.SPL_FEC_CEy x y)).toNat) 0
  leBytes 4 ce ++ leBytes 2 (telCount s (4 * x) 16) ++ leBytes 2 (telCount s (4 * x + 1) 16)
    ++ leBytes 2 (telCount s (4 * x + 2) 16) ++ leBytes 1 (bits st 31 29) ++ leBytes 1 (bits st 23 20)
    ++ leBytes 2 (telCount s (4 * x + 3) 16) ++ leBytes 2 0

/-- A rail's entry; flag 0 says that no reply came in the interval. -/
def telRail (own : Bool) (r : RailSample) : List Byte :=
  leBytes 2 r.mv ++ leBytes 2 r.ia ++ leBytes 2 r.pw ++ leBytes 2 (b2n (own || decide (4 ≤ r.fails)))

/-- A counter of an audit channel, summed over the logical benches. -/
def auditSum (s : State) (reg : Nat → Nat) : Nat := s.benchMap.foldl (fun n b => n + (rg64 s (reg b)).toNat) 0

/-- An audit channel's entry. -/
def telAudit (s : State) (n : Nat) : List Byte :=
  leBytes 4 (rg s (Rg.BENCH_AUDn_OP ((physOf s 0).getD 0) n)).toNat
    ++ leBytes 4 (auditSum s fun b => Rg.BENCH_AUDn_SAT_LO b n) ++ leBytes 4 (auditSum s fun b => Rg.BENCH_AUDn_FLUSH_LO b n)
    ++ leBytes 4 (auditSum s fun b => Rg.BENCH_AUDn_UFL_LO b n)

/-- Bytes 0x000 to 0x0AF of a record (Table 15-10). -/
def telHead (q : TelSample) (s : State) : List Byte :=
  leBytes 8 q.g ++ leBytes 8 (s.stepNo % 2 ^ 48 + stepCode s.stepSt * 2 ^ 48)
    ++ leBytes 4 (rg s (Rg.LKD_EPOCH 0)).toNat ++ leBytes 4 s.telSeq
    ++ leBytes 1 (chipCode s.chip) ++ leBytes 1 (opNow s)
    ++ leBytes 1 (b2n (s.throttled || bit (rg s Rg.PWR_STAT) 16)
        + 2 * b2n ((List.range 8).any fun j => bit (rg s (Rg.JST_STAT j)) 16))
    ++ leBytes 5 0
    ++ (List.range 64).flatMap (fun i => leBytes 1 (ofSigned 8 (q.temps.getD i 0)))
    ++ q.rails.flatMap (telRail (bit (rg s Rg.PLUMB_STAT) 28)) ++ leBytes 4 q.mw ++ leBytes 4 0

/-- A record (Table 15-10). -/
def telRecord (q : TelSample) (s : State) : List Byte :=
  let body := telHead q s ++ (List.range 16).flatMap (telSpline s)
    ++ [64, 65].flatMap (fun k => leBytes 4 (telCount s k 32)) ++ leBytes 4 (telStalls s)
    ++ [67, 68, 69].flatMap (fun k => leBytes 4 (telCount s k 32)) ++ leBytes 56 0
    ++ (List.range 16).flatMap (telAudit s) ++ leBytes 252 0
  body ++ leBytes 4 (crc32 body).toNat

/-- The rails as they are read at a telemetry mark (R427 to R429): a request that only reads drives no rest, and a successful
read-back of every rail ends the cause REG_BUS (Table 14-4). -/
def readRails (rails : List RailSample) (s : State) : State :=
  if bit (rg s Rg.PLUMB_STAT) 28 then s
  else
    let s := ((List.range 9).zip rails).foldl (fun s e =>
      let r := e.2
      let page := if r.avs then Pg.AVS else Pg.PWR
      let s := regRetry page (if r.avs then Rg.AVS_RETRY else Rg.PWR_PMB_RETRY) e.1 r.cmd r.fails s
      if 4 ≤ r.fails then regFail page r.avs e.1 r.cmd false s else pmbAlert e.1 r.status s) s
    if rails.all fun r => decide (r.fails < 4) then restPend 5 false s else s

/-- The hottest of a list of sensors, from number `k` on. -/
def hottest : Nat → List Int → Nat × Int → Nat × Int
  | _, [], b => b
  | k, t :: l, b => hottest (k + 1) l (if b.2 < t then (k, t) else b)

/-- What every telemetry mark samples (R221, R389, R440). -/
def sampleAll (q : TelSample) (s : State) : State :=
  let h := hottest 1 q.temps.tail (0, q.temps.headD 0)
  let s := ((List.range 8).zip q.dies).foldl (fun s e => wrF (Rg.JST_STAT e.1) 7 0 (ofSigned 8 e.2) s) s
  let s := ((List.range 64).zip q.temps).foldl (fun s e => sensorHot e.1 e.2 s) (tjSeen h.1 h.2 s)
  readRails q.rails s

/-- A selected mark (R389): a record, if TELEM is enabled; the next interval begins. -/
def telMark (q : TelSample) (s : State) : State :=
  let c := rg s Rg.TEL_CTRL
  let s1 := if bit c 31 then
      ringPut (base48 s Rg.TEL_RING_BASE_LO) Rg.TEL_WR Rg.TEL_RD Rg.TEL_LOST (bits c 20 16) (telRecord q s)
        { s with telSeq := s.telSeq + 1, free := s.free + 128 }
    else s
  { s1 with telBase := telTotals s, throttled := bit (rg s Rg.PWR_STAT) 16 }

/-- TELEMETRY_SAMPLE (R389): the telemetry mark at gauge `q.g`. -/
def telemetrySample (q : TelSample) (s : State) : State :=
  if !manageable s || q.g % 2 ^ 20 != 0 || q.temps.length != 64 || q.dies.length != 8 || q.rails.length != 9 then s
  else
    let s := sampleAll q (gaugeTo q.g s)
    if s.chip = .nap ∨ q.g / 2 ^ 20 % 2 ^ bits (rg s Rg.TEL_CTRL) 26 24 ≠ 0 then s else telMark q s
def execTelemetrySample (q : TelSample) (s : State) : Out := .next (telemetrySample q s)

end Sys2Proof.Machine
end

