-- ==== Sys2Proof/Machine/RegWrite.lean ====
section
/-! DEFINITION. Writes of registers by the cabinet (R7 to R10): why each is refused, what each does. -/

namespace Sys2Proof.Machine

/-! ### Ranges -/

/-- A reason of VALUE, and one of STATE. -/
def noValue (p : Bool) : Bool × Nat := (p, rsValue)
def noState (p : Bool) : Bool × Nat := (p, rsState)

/-- A field outside [lo, hi]. -/
def outside (x lo hi : Nat) : Bool := decide (x < lo ∨ hi < x)
/-- Low bits that must be 0. -/
def unaligned (v : Word) (k : Nat) : Bool := v.toNat % 2 ^ k != 0
/-- A read counter placed beyond its write counter (R43, R366). -/
def beyond (v wrs : Word) : Bool := decide (2 ^ 31 ≤ (wrs - v).toNat)

/-! ### Refusals by page (R42, R74, R78, R159, R162, R191, R204, R206 and the register tables) -/

/-- Some channel of bench `b` other than `n` is enabled with op ID `op` (R78). -/
def auditClash (b n : Nat) (op : Word) (s : State) : Bool :=
  (List.range 16).any fun m => m != n && bit (rg s (Rg.BENCH_AUDn_CTL b m)) 31 && rg s (Rg.BENCH_AUDn_OP b m) == op

/-- Audit channel registers of the BENCH page. -/
def benchBad (b off : Nat) (v : Word) (s : State) : List (Bool × Nat) :=
  let n := (off - 0x400) / 0x20
  if off < 0x400 ∨ 0x600 ≤ off then []
  else if off % 0x20 = 0 then
    [noState (stepLive s), noValue (bit (rg s (Rg.BENCH_AUDn_CTL b n)) 31 && auditClash b n v s)]
  else if off % 0x20 = 4 then
    [noState (stepLive s), noValue (bit v 31 && auditClash b n (rg s (Rg.BENCH_AUDn_OP b n)) s)]
  else []

/-- Registers of the SEQ page. -/
def seqBad (b off : Nat) (v : Word) (s : State) : List (Bool × Nat) :=
  let busy := !(allStreams.all fun t => (str s b t).state = .stopped)
  let jig := noState (busy && decide (0x060 ≤ off ∧ off < 0x140 ∧ off ≠ 0x114 ∧ off ≠ 0x0A0) && !(0x120 ≤ off && off < 0x130))
  let dst := if off = 0x138 then bits v 20 0 else (rg s (Rg.SEQ_PRE_DST b)).toNat
  let len := if off = 0x13C then bits v 18 0 else (rg s (Rg.SEQ_PRE_LEN b)).toNat
  jig :: (if off = 0x060 ∨ off = 0x130 then [noValue (unaligned v 6)]
    else if off = 0x068 then
      let f := bits v 6 0
      let g := bits v 14 8
      let u := bits v 22 16
      [noValue (f == 0 || g == 0 || u == 0 || decide (64 < f + g + u))]
    else if off = 0x070 ∨ off = 0x078 ∨ off = 0x080 then [noValue (unaligned v 10)]
    else if (0x0A4 ≤ off ∧ off < 0x0C0) ∨ (0x100 ≤ off ∧ off ≤ 0x110) then [noValue (bits v 19 0 == 0)]
    else if off = 0x120 then [noState (bit v 31 && !inTest s b)]
    else if off = 0x138 then [noValue (unaligned v 6 || decide (trayEnd < dst + len))]
    else if off = 0x13C then [noValue (len % 64 != 0 || decide (262144 < len ∨ trayEnd < dst + len))]
    else [])

/-- Every stream of the chip is STOPPED. -/
def chipStopped (s : State) : Bool := chipStreams.all fun p => (str s p.1 p.2).state = .stopped

/-- Registers of the HOLD page. -/
def holdBad (off : Nat) (v : Word) (s : State) : List (Bool × Nat) :=
  let going := chipStreams.any fun p => [.armed, .run, .wait, .held].contains (str s p.1 p.2).state
  match off with
  | 0x040 => [noState (bit v 0 && s.chip != .test)]
  | 0x044 => [noValue (bits v 19 0 == 0)]
  | 0x060 => [noState (stepLive s), noValue (unaligned v 16)]
  | 0x064 => [noState (stepLive s)]
  | 0x070 | 0x074 => [noState (!chipStopped s)]
  | 0x078 => [noState going, noValue (unaligned v 12)]
  | 0x07C => [noState going]
  | _ => []

/-- Registers of the JMC page: the base of a region, and the ticket bound. -/
def jmcBad (off : Nat) (v : Word) (s : State) : List (Bool × Nat) :=
  let n := (off - 0x400) / 0x10
  if off = 0x058 then [noValue (bits v 19 0 == 0)]
  else if 0x400 ≤ off ∧ off < 0x800 ∧ off % 0x10 = 0 then
    guardBaseBad n ((rg s (Rg.JMC_GRn_BASE_HI 0 n)).toNat * 2 ^ 32 + v.toNat) true s
  else if 0x400 ≤ off ∧ off < 0x800 ∧ off % 0x10 = 4 then
    guardBaseBad n (bits v 15 0 * 2 ^ 32 + (rg s (Rg.JMC_GRn_BASE_LO 0 n)).toNat) false s
  else []

/-- Registers of the SPLINE page. -/
def splineBad (x off : Nat) (v : Word) (s : State) : List (Bool × Nat) :=
  let l := linkState s x
  let c := blkState s (Pg.SPLINE x)
  match off with
  | 0x04C => [noState (l != linkDown && l != linkFault)]
  | 0x080 => [noValue (unaligned v 12)]
  | 0x108 => [noState (c != 0 && c != 5)]
  | _ => []

/-- Registers of the LINKDIE page (R319, R459). -/
def dieBad (d off : Nat) (v : Word) (s : State) : List (Bool × Nat) :=
  if off = 0x040 ∨ off = 0x048 ∨ 0x800 ≤ off then [noState (stepHeld s)]
  else match off with
    | 0x080 => [noState (stepLive s), noValue (outside (bits v 20 16) 10 30)]
    | 0x088 => [noState (stepLive s), noValue (unaligned v 12)]
    | 0x08C => [noState (stepLive s)]
    | 0x094 => [noValue (beyond v (rg s (Rg.LKD_CAP_WR d)))]
    | _ => []

/-- Registers of the CUTLIST page (R287). -/
def cutBad (x off : Nat) (v : Word) (s : State) : List (Bool × Nat) :=
  let armed := bit (rg s (Rg.CUT_STAT x)) 29
  match off with
  | 0x048 => [noState armed, noValue (unaligned v 6)]
  | 0x04C => [noState armed]
  | 0x050 => [noValue (unaligned v 12)]
  | _ => []

/-- Registers of the SEALU page (R42, R43, R320, R340). -/
def sealuBad (off : Nat) (v : Word) (s : State) : List (Bool × Nat) :=
  match off with
  | 0x040 => [noState (stepHeld s), noValue (!bit v 31 && decide (3071 < bits v 11 0))]
  | 0x044 => [noState (stepHeld s), noValue (outside (bits v 14 0) 1 16384)]
  | 0x048 => [noState (stepHeld s), noValue (bits v 19 0 == 0)]
  | 0x080 => [noState (stepLive s), noValue (outside (bits v 20 16) 10 24 || decide (3 < bits v 2 0))]
  | 0x084 | 0x088 | 0x094 => [noState (stepLive s)]
  | 0x090 => [noState (stepLive s), noValue (unaligned v 12)]
  | 0x09C => [noValue (beyond v (rg s Rg.SEAL_WRING_WR))]
  | 0x0C8 | 0x0CC => [noState (stepHeld s)]
  | _ => []

/-- Registers of the TELEM page (Table 15-11). -/
def telemBad (off : Nat) (v : Word) (s : State) : List (Bool × Nat) :=
  let c := rg s Rg.TEL_CTRL
  match off with
  | 0x040 => [noState (bit c 31 && bits v 20 16 != bits c 20 16), noValue (outside (bits v 20 16) 6 16)]
  | 0x048 => [noState (bit c 31), noValue (unaligned v 12)]
  | 0x04C => [noState (bit c 31)]
  | 0x054 => [noValue (beyond v (rg s Rg.TEL_WR))]
  | _ => []

/-- The event ring, of 2^`log2` records, is valid (R386). -/
def evcRingOk (log2 : Nat) (s : State) : Bool :=
  let n := 32 * 2 ^ log2
  s.ringSet && decide (evcBase s + n ≤ memEnd s) && (regionsOf s 0).all fun r => !overlap (evcBase s) n r.base (2 * r.size)

/-- Registers of the EVC page (R386, Table 15-9). -/
def evcBad (off : Nat) (v : Word) (s : State) : List (Bool × Nat) :=
  let c := rg s Rg.EVC_CTRL
  let ring := !bit c 30
  let log2 := bits v 28 24
  match off with
  | 0x040 => [noState (ring && log2 != bits c 28 24),
      noValue (!bit v 30 && !evcRingOk log2 s), noValue (outside log2 8 16), noValue (bits v 23 16 == 0),
      noValue (outside (bits v 13 0) 1 10000)]
  | 0x048 => [noState ring, noValue (unaligned v 12)]
  | 0x04C => [noState ring]
  | 0x054 => [noValue (beyond v (rg s Rg.EVC_WR))]
  | _ => []

/-- Registers of the MGP page (Table 15-14). -/
def mgpBad (off : Nat) (v : Word) (s : State) : List (Bool × Nat) :=
  if off = 0x050 ∨ off = 0x070 ∨ off = 0x090 then [noValue (unaligned v 5)]
  else if off = 0x058 ∨ off = 0x078 ∨ off = 0x098 then
    let c := rg s (Pg.MGP + off)
    [noState (bit c 31 && bits v 20 16 != bits c 20 16), noValue (outside (bits v 20 16) 4 12)]
  else []

/-- Registers of the PWR and AVS pages (R424, R434, Table 17-11). -/
def pwrBad (off : Nat) (v : Word) (s : State) : List (Bool × Nat) :=
  if off = 0x044 then [noValue (outside (bits v 11 0) 100 2100)]
  else if off = 0x050 then [noValue (bits v 3 0 == 0)]
  else if 0x060 ≤ off ∧ off < 0x070 then [noValue (outside (bits v 9 0) 600 (bits (rg s Rg.AVS_VMAX) 9 0))]
  else []

def avsBad (off : Nat) (v : Word) (s : State) : List (Bool × Nat) :=
  if off = 0x044 then
    [noValue (outside (bits v 9 0) 600 950 || (List.range 4).any fun k => decide (bits v 9 0 < opVolts s k))]
  else []

/-- Registers of the PLUMB page (Table 14-9). -/
def plumbBad (off : Nat) (v : Word) : List (Bool × Nat) :=
  match off with
  | 0x054 => [noValue (outside (bits v 9 0) 10 1000)]
  | 0x058 => [noValue (outside (bits v 6 0) 2 100)]
  | 0x05C => [noValue (outside (bits v 8 0) 20 500)]
  | _ => []

/-- Registers of the SEC, BOOT and TEST pages (R364, R407, R417, R419). -/
def secBad (off : Nat) (v : Word) : List (Bool × Nat) :=
  match off with
  | 0x050 => [noValue (unaligned v 6)]
  | 0x058 => [noValue (decide (0x06102000 < v.toNat))]
  | _ => []

def bootBad (off : Nat) (v : Word) : List (Bool × Nat) :=
  if off = 0x054 ∨ off = 0x058 ∨ off = 0x060 then [noValue (unaligned v 12)] else []

def testBad (off : Nat) (v : Word) (s : State) : List (Bool × Nat) :=
  let hi := rg s Rg.SEC_PAT_REC_HI
  match off with
  | 0x048 => [noValue (unaligned v 12 || !bit hi 31 || v != rg s Rg.SEC_PAT_REC_LO)]
  | 0x04C => [noValue (!bit hi 31 || bits v 15 0 != bits hi 15 0)]
  | 0x050 => [noState (s.chip != .test)]
  | _ => []

/-- Registers of the page header (Table 15-1). -/
def headerBad (page off : Nat) (v : Word) (s : State) : List (Bool × Nat) :=
  match off with
  | 0x00C => [noState (page = Pg.CHIP)]
  | 0x028 => [noValue (bits v 19 0 == 0)]
  | 0x02C => [noValue (!bit v 5)]
  | 0x034 => [(bit (rg s (Rg.LOCK page)) 0 && !bit v 0, rsLocked)]
  | _ => []

/-- Why a write of `v` at management offset `a`, to a register with row `r`, is refused. -/
def writeBad (a : Nat) (r : RegRow) (v : Word) (s : State) : List (Bool × Nat) :=
  let i := regInst a
  let off := regOff a
  (r.rwl != 0 && bit (rg s (Rg.LOCK (regPage a))) 0, rsLocked) ::
  (if off < 0x40 then headerBad (regPage a) off v s
  else match regCls a with
    | 0x00 => if a = Rg.CHIP_NUM_MODE then [noState (stepLive s)] else []
    | 0x01 => benchBad i off v s
    | 0x03 => seqBad i off v s
    | 0x08 => holdBad off v s
    | 0x09 => if 0x080 ≤ off ∧ off < 0x090 then [noState (!chipStopped s)] else []
    | 0x0C => jmcBad off v s
    | 0x0D => if off = 0x044 then [noValue (decide (9 < bits v 3 0))] else []
    | 0x10 => splineBad i off v s
    | 0x11 => dieBad i off v s
    | 0x13 => cutBad i off v s
    | 0x14 => sealuBad off v s
    | 0x18 => if off = 0x050 then loadBad false v s
              else if off = 0x068 ∨ off = 0x06C then [noState (stepLive s)] else []
    | 0x19 => telemBad off v s
    | 0x1C => evcBad off v s
    | 0x1E => mgpBad off v s
    | 0x20 => pwrBad off v s
    | 0x21 => avsBad off v s
    | 0x24 => plumbBad off v
    | 0x28 => secBad off v
    | 0x2A => bootBad off v
    | 0x2C => testBad off v s
    | _ => [])

/-! ### The write itself -/

/-- The register takes the fields that the cabinet writes, and loses those that a 1 clears (R10). -/
def mergeWrite (r : RegRow) (old v : Word) : Word :=
  let m := word (r.rw ||| r.rwl)
  ((old &&& ~~~m) ||| (v &&& m)) &&& ~~~(v &&& word r.w1c)

/-- Offsets of one register on every page that mirrors it (R450). -/
def mirrors (a : Nat) : List Nat :=
  let off := regOff a
  if regCls a = 0x0C ∧ (off = 0x058 ∨ (0x400 ≤ off ∧ off % 0x10 ≠ 8)) then (List.range 8).map fun j => Pg.JMC j + off
  else if regCls a = 0x11 ∧ (off = 0x040 ∨ off = 0x048 ∨ 0x800 ≤ off) then (List.range 2).map fun d => Pg.LINKDIE d + off
  else [a]

/-- What a write does beyond its register: the clearing of ERR_FIRST ends a source's pending state (R388), a base makes the event
ring known (R386), and a consumed record is no longer unread. -/
def afterWrite (a : Nat) (v : Word) (s : State) : State :=
  if regOff a = 0x018 then (if bit v 31 then evcSettle (regPage a) true s else s)
  else if a = Rg.EVC_RING_BASE_LO ∨ a = Rg.EVC_RING_BASE_HI then { s with ringSet := true }
  else if a = Rg.EVC_RD then { s with unread := unreadOf s }
  else s

/-- An accepted write of a register that takes a value ends the latch of its pair (R8); one of a read-only register has no effect
(R10). -/
def dropLatch (a : Nat) (r : RegRow) (s : State) : State :=
  if r.rw = 0 ∧ r.rwl = 0 then s
  else { s with latch := if pairLow a then spDel (a + 4) s.latch else spDel a s.latch }

/-- A write of a register whose fields are stored. -/
def plainWrite (a : Nat) (r : RegRow) (v : Word) (s : State) : State :=
  match lowest (writeBad a r v s) with
  | some k => refuse (regPage a) (regOff a) k v.toNat s
  | none => afterWrite a v (dropLatch a r ((mirrors a).foldl (fun s a => wr a (mergeWrite r (rg s a) v) s) s))

/-- A write of COMMAND by its opcode; any other opcode is refused (R382). What the regulators and the benches answer is the rows'
own operand: here every regulator answers at once and no bench fails. -/
def commandWrite (v : Word) (s : State) : State :=
  let tag := BitVec.ofNat 16 (bits v 15 0)
  match bits v 31 24 with
  | 0x01 => computeReset tag s
  | 0x02 => benchReset tag s
  | 0x03 => benchSwap tag s
  | 0x04 => testBench tag s
  | 0x05 => stackRetrain tag s
  | 0x06 => stackRetire tag s
  | 0x07 => fwActivate tag s
  | 0x08 => epochChange tag s
  | 0x09 => restCommand tag s
  | 0x0A => restExit tag 0 [] s
  | 0x0B => powerState tag s
  | 0x0C => setOp tag 0 (opVolts s (bits (arg0 s) 1 0)) s
  | 0x0D => quiesce tag s
  | 0x0E => resumeCmd tag s
  | 0x0F => domainReset tag s
  | _ => refuse Pg.CHIP 0x040 rsValue v.toNat s

/-- A write of SEC_CMD by its opcode; any other is refused (Table 16-8). The three commands whose outcome is a verdict of the
cryptography have rows of their own that carry it. -/
def secWriteCmd (v : Word) (s : State) : State :=
  let tag := BitVec.ofNat 16 (bits v 15 0)
  match bits v 31 24 with
  | 0x01 | 0x02 | 0x08 => s
  | 0x03 => arbAdvance tag s
  | 0x04 => attest tag s
  | 0x05 => identity tag s
  | 0x06 => progOwner tag s
  | 0x07 => revoke tag s
  | _ => refuse Pg.SEC 0x040 rsValue v.toNat s

/-- A write of BOOT_XSPI_CTL: DONE, and the operations that need nothing of the flash. -/
def xspiWrite (r : RegRow) (v : Word) (s : State) : State :=
  match bits v 1 0 with
  | 0 => wr Rg.BOOT_XSPI_CTL (mergeWrite r (rg s Rg.BOOT_XSPI_CTL) v) s
  | 2 => xspiProgram false s
  | 3 => xspiErase false s
  | _ => s

/-- A write that acts: the registers of one page class whose write is more than the storing of its fields. None where it is not
one of them. -/
def actWrite (a : Nat) (r : RegRow) (v : Word) (s : State) : Option State :=
  let i := regInst a
  let off := regOff a
  if off = 0x00C ∧ regCls a ≠ 0 then some (stateReqWrite (regPage a) v true s)
  else if off < 0x40 then none
  else match regCls a with
    | 0x00 => if off = 0x040 then some (commandWrite v s) else none
    | 0x01 => if off = 0x258 then some (tryInjWrite i v s) else none
    | 0x02 => if off = 0x050 then some (ttabCtlWrite i v s) else none
    | 0x03 => if off = 0x040 then some (streamCtlWrite i v false [] s) else none
    | 0x08 => if off = 0x058 then some (freezeCtlWrite v s) else none
    | 0x0C => if 0x400 ≤ off ∧ off % 0x10 = 8 then some (guardCtlWrite i ((off - 0x400) / 0x10) v s) else none
    | 0x10 =>
      if off = 0x040 then some (splCtlWrite i v s)
      else if off = 0x088 then some (keyCtlWrite i v s)
      else if 0x0C0 ≤ off ∧ off < 0x100 then some (keyWrite i ((off - 0x0C0) / 4) v s)
      else none
    | 0x12 => if 0x100 ≤ off ∧ off < 0x900 then
        some (ctxWrite (64 * i + (off - 0x100) / 0x20) ((off - 0x100) / 4 % 8) v s) else none
    | 0x13 => if off = 0x040 then some (cutCtlWrite i v s) else none
    | 0x14 => if off = 0x0C0 then some (stepCtlWrite v s) else none
    | 0x18 => if off = 0x054 then some (loadHiWrite v s) else none
    | 0x24 => if off = 0x04C then some (heartbeatWrite v s) else none
    | 0x28 => if off = 0x040 then some (secWriteCmd v s) else none
    | 0x2A => if off = 0x050 then some (xspiWrite r v s) else none
    | _ => none

/-- A write of `v` at management offset `a` of a populated page. -/
def regWrite (a : Nat) (v : Word) (s : State) : State :=
  match rowAt a with
  | none => s
  | some r =>
    match actWrite a r v s with
    | some t => t
    | none => plainWrite a r v s

/-- REGISTER_WRITE (R7 to R10, R375): a store of the cabinet to the management space, at offset `a`. -/
def registerWrite (a width : Nat) (v : Word) (s : State) : State :=
  if !manageable s then s
  else if 2 ^ 26 ≤ a then { s with cabFault := true }
  else if !pageThere a then
    { refuse Pg.CHIP (regOff a) (if widthBad a width then rsWidth else rsUnpop) v.toNat s with cabFault := false }
  else
    let s := { s with cabFault := false }
    pageCmd (regPage a) (regOff a) v (fun s =>
      if widthBad a width then refuse (regPage a) (regOff a) rsWidth v.toNat s else regWrite a v s) s
def execRegisterWrite (a width : Nat) (v : Word) (s : State) : Out := .next (registerWrite a width v s)

end Sys2Proof.Machine
end

