-- ==== Sys2Proof/Machine/Dispatch.lean ====
section
/-! DEFINITION. The meaning of each command. -/

namespace Sys2Proof.Machine

def exec (i : Instr) (s : State) : Host.Outcome State Fault Refusal :=
  match i with
  | .nop b t w => Sys2Proof.Machine.execNop b t w s
  | .loop b t w => Sys2Proof.Machine.execLoop b t w s
  | .endl b t w => Sys2Proof.Machine.execEndl b t w s
  | .waitg b t w => Sys2Proof.Machine.execWaitg b t w s
  | .waitgRelease g => Sys2Proof.Machine.execWaitgRelease g s
  | .holdpt b t w => Sys2Proof.Machine.execHoldpt b t w s
  | .trapI b t w => Sys2Proof.Machine.execTrapI b t w s
  | .seal b t w => Sys2Proof.Machine.execSeal b t w s
  | .clset b t w => Sys2Proof.Machine.execClset b t w s
  | .cladd b t w => Sys2Proof.Machine.execCladd b t w s
  | .clwait b t w => Sys2Proof.Machine.execClwait b t w s
  | .clampUpdate glob b n k => Sys2Proof.Machine.execClampUpdate glob b n k s
  | .qpush b t w => Sys2Proof.Machine.execQpush b t w s
  | .queueEntryArrive b => Sys2Proof.Machine.execQueueEntryArrive b s
  | .qpop b t w => Sys2Proof.Machine.execQpop b t w s
  | .tile b t w => Sys2Proof.Machine.execTile b t w s
  | .tclr b t w => Sys2Proof.Machine.execTclr b t w s
  | .tdrain b t w => Sys2Proof.Machine.execTdrain b t w s
  | .drainStart b => Sys2Proof.Machine.execDrainStart b s
  | .outfeedEntryVisible b => Sys2Proof.Machine.execOutfeedEntryVisible b s
  | .ttap b t w => Sys2Proof.Machine.execTtap b t w s
  | .hada b t w => Sys2Proof.Machine.execHada b t w s
  | .vop b t w => Sys2Proof.Machine.execVop b t w s
  | .vfma b t w => Sys2Proof.Machine.execVfma b t w s
  | .vred b t w => Sys2Proof.Machine.execVred b t w s
  | .vscan b t w => Sys2Proof.Machine.execVscan b t w s
  | .vascan b t w => Sys2Proof.Machine.execVascan b t w s
  | .vcvt b t w => Sys2Proof.Machine.execVcvt b t w s
  | .vtrf b t w => Sys2Proof.Machine.execVtrf b t w s
  | .vgrain b t w => Sys2Proof.Machine.execVgrain b t w s
  | .vven b t w => Sys2Proof.Machine.execVven b t w s
  | .vunv b t w => Sys2Proof.Machine.execVunv b t w s
  | .witness b t w => Sys2Proof.Machine.execWitness b t w s
  | .dmal b t w => Sys2Proof.Machine.execDmal b t w s
  | .dmas b t w => Sys2Proof.Machine.execDmas b t w s
  | .dmax b t w => Sys2Proof.Machine.execDmax b t w s
  | .rsend b t w => Sys2Proof.Machine.execRsend b t w s
  | .rread b t w => Sys2Proof.Machine.execRread b t w s
  | .glue b t w => Sys2Proof.Machine.execGlue b t w s
  | .rclamp b t w => Sys2Proof.Machine.execRclamp b t w s
  | .shadow b t w => Sys2Proof.Machine.execShadow b t w s
  | .chkcmp b t w => Sys2Proof.Machine.execChkcmp b t w s
  | .shadowCompare b tag => Sys2Proof.Machine.execShadowCompare b tag s
  | .ticketComplete b n par => Sys2Proof.Machine.execTicketComplete b n par s
  | .dmaLastByte b n par => Sys2Proof.Machine.execDmaLastByte b n par s
  | .prefetchBlockArrive b t blk par => Sys2Proof.Machine.execPrefetchBlockArrive b t blk par s
  | .lockstepMismatch b cyc => Sys2Proof.Machine.execLockstepMismatch b cyc s
  | .holdDetect cls it => Sys2Proof.Machine.execHoldDetect cls it s
  | .holdRelease => Sys2Proof.Machine.execHoldRelease s
  | .holdResume cyc => Sys2Proof.Machine.execHoldResume cyc s
  | .holdTimeout begun => Sys2Proof.Machine.execHoldTimeout begun s
  | .unitTimeout b t => Sys2Proof.Machine.execUnitTimeout b t s
  | .clampTimeout b t => Sys2Proof.Machine.execClampTimeout b t s
  | .freezeArm id => Sys2Proof.Machine.execFreezeArm id s
  | .freezeDump => Sys2Proof.Machine.execFreezeDump s
  | .freezeAbandon => Sys2Proof.Machine.execFreezeAbandon s
  | .freezeResumeContinue => Sys2Proof.Machine.execFreezeResumeContinue s
  | .freezeResumeLoad => Sys2Proof.Machine.execFreezeResumeLoad s
  | .streamStart b mask parT parP => Sys2Proof.Machine.execStreamStart b mask parT parP s
  | .streamStop b mask => Sys2Proof.Machine.execStreamStop b mask s
  | .streamRun b t => Sys2Proof.Machine.execStreamRun b t s
  | .tryInject b v => Sys2Proof.Machine.execTryInject b v s
  | .tableCheck b => Sys2Proof.Machine.execTableCheck b s
  | .tableCheckDone b ok => Sys2Proof.Machine.execTableCheckDone b ok s
  | .stepOpen => Sys2Proof.Machine.execOpen s
  | .stepRun => Sys2Proof.Machine.execStepRun s
  | .stepClose => Sys2Proof.Machine.execStepClose s
  | .sealTokenReceive spl => Sys2Proof.Machine.execSealTokenReceive spl s
  | .sealChildTimeout => Sys2Proof.Machine.execSealChildTimeout s
  | .sealDecisionReceive spl => Sys2Proof.Machine.execSealDecisionReceive spl s
  | .sealedTimeout => Sys2Proof.Machine.execSealedTimeout s
  | .resolveVoid => Sys2Proof.Machine.execResolveVoid s
  | .resolveCommit => Sys2Proof.Machine.execResolveCommit s
  | .stepDeadline => Sys2Proof.Machine.execStepDeadline s
  | .slotTransmit x g fault => Sys2Proof.Machine.execSlotTransmit x g fault s
  | .slotReceive x g delay lanes => Sys2Proof.Machine.execSlotReceive x g s delay lanes
  | .ackTimeout x g => Sys2Proof.Machine.execAckTimeout x g s
  | .opReceive spl gone => Sys2Proof.Machine.execOpReceive spl gone s
  | .dataReceive spl gone => Sys2Proof.Machine.execDataReceive spl gone s
  | .respReceive spl par => Sys2Proof.Machine.execRespReceive spl s par
  | .fackReceive spl => Sys2Proof.Machine.execFackReceive spl s
  | .creditReceive spl => Sys2Proof.Machine.execCreditReceive spl s
  | .errorReceive spl => Sys2Proof.Machine.execErrorReceive spl s
  | .echoReqReceive x => Sys2Proof.Machine.execEchoReqReceive x s
  | .glueUp fmt a bs ea ein => Sys2Proof.Machine.execGlueUp fmt a bs ea ein s
  | .flowTimeout c => Sys2Proof.Machine.execFlowTimeout c s
  | .flowContextWrite c k v => Sys2Proof.Machine.execFlowContextWrite c k v s
  | .epochChange tag => Sys2Proof.Machine.execEpochChange tag s
  | .echoExchange x g ttx => Sys2Proof.Machine.execEchoExchange x g ttx s
  | .echoReply x m => Sys2Proof.Machine.execEchoReply x m s
  | .echoNoReply x => Sys2Proof.Machine.execEchoNoReply x s
  | .train x => Sys2Proof.Machine.execTrain x s
  | .trainComplete x t peerB2b => Sys2Proof.Machine.execTrainComplete x t peerB2b s
  | .trainTimeout x => Sys2Proof.Machine.execTrainTimeout x s
  | .mute x => Sys2Proof.Machine.execMute x s
  | .laneJudge x ls => Sys2Proof.Machine.execLaneJudge x ls s
  | .laneSwapComplete x => Sys2Proof.Machine.execLaneSwapComplete x s
  | .knockRecognised x => Sys2Proof.Machine.execKnockRecognised x s
  | .load x => Sys2Proof.Machine.execLoad x s
  | .arm x => Sys2Proof.Machine.execArm x s
  | .disarm x => Sys2Proof.Machine.execDisarm x s
  | .cutlistActivate x => Sys2Proof.Machine.execCutlistActivate x s
  | .keyArm x => Sys2Proof.Machine.execKeyArm x s
  | .keyChange x => Sys2Proof.Machine.execKeyChange x s
  | .gaugeLoadArm v => Sys2Proof.Machine.execGaugeLoadArm v s
  | .gmarkEdge t => Sys2Proof.Machine.execGmarkEdge t s
  | .gmarkMissing => Sys2Proof.Machine.execGmarkMissing s
  | .gaugeArmTimeout => Sys2Proof.Machine.execGaugeArmTimeout s
  | .grefLoss => Sys2Proof.Machine.execGrefLoss s
  | .grefReturn inPhase => Sys2Proof.Machine.execGrefReturn inPhase s
  | .holdoverLimit => Sys2Proof.Machine.execHoldoverLimit s
  | .pllLockLoss => Sys2Proof.Machine.execPllLockLoss s
  | .gaugeMonitorFault => Sys2Proof.Machine.execGaugeMonitorFault s
  | .telemetrySample q => Sys2Proof.Machine.execTelemetrySample q s
  | .xrefBegin j => Sys2Proof.Machine.execXrefBegin j s
  | .xrefEnd j => Sys2Proof.Machine.execXrefEnd j s
  | .scrubRead gc a t res row => Sys2Proof.Machine.execScrubRead gc a t res row s
  | .jmcAccess a t dur lock ce row tce copied par => Sys2Proof.Machine.execJmcAccess a t dur lock ce row s tce copied par
  | .cabinetMemAccess a n data kind => Sys2Proof.Machine.execCabinetMemAccess a n data s kind
  | .ticketTimeout b n begun => Sys2Proof.Machine.execTicketTimeout b n begun s
  | .guardRegionWrite j n v => Sys2Proof.Machine.execGuardRegionWrite j n v s
  | .stackRetrain tag => Sys2Proof.Machine.execStackRetrain tag s
  | .retrainComplete ok => Sys2Proof.Machine.execRetrainComplete ok s
  | .stackRetire tag => Sys2Proof.Machine.execStackRetire tag s
  | .relocationComplete found => Sys2Proof.Machine.execRelocationComplete found s
  | .computeReset tag => Sys2Proof.Machine.execComputeReset tag s
  | .benchReset tag => Sys2Proof.Machine.execBenchReset tag s
  | .domainReset tag => Sys2Proof.Machine.execDomainReset tag s
  | .fenceDrainTimeout d begun => Sys2Proof.Machine.execFenceDrainTimeout d begun s
  | .resetStart d => Sys2Proof.Machine.execResetStart d s
  | .resetComplete d us fails b => Sys2Proof.Machine.execResetComplete d us fails b s
  | .resetEscalation d hit => Sys2Proof.Machine.execResetEscalation d s hit
  | .benchSwap tag => Sys2Proof.Machine.execBenchSwap tag s
  | .swapCopy => Sys2Proof.Machine.execSwapCopy s
  | .swapAbandon ue => Sys2Proof.Machine.execSwapAbandon ue s
  | .testBench tag => Sys2Proof.Machine.execTestBench tag s
  | .testComplete fails unit digestBad => Sys2Proof.Machine.execTestComplete fails unit digestBad s
  | .fwActivate tag => Sys2Proof.Machine.execFwActivate tag s
  | .fwFirstHeartbeat d => Sys2Proof.Machine.execFwFirstHeartbeat d s
  | .fwActivateTimeout d hit => Sys2Proof.Machine.execFwActivateTimeout d s hit
  | .rest tag => Sys2Proof.Machine.execRest tag s
  | .restExit tag us fails => Sys2Proof.Machine.execRestExit tag us fails s
  | .powerStateActive tag => Sys2Proof.Machine.execPowerStateActive tag s
  | .powerStateIdle tag => Sys2Proof.Machine.execPowerStateIdle tag s
  | .powerStateNap tag => Sys2Proof.Machine.execPowerStateNap tag s
  | .powerStateDeep tag => Sys2Proof.Machine.execPowerStateDeep tag s
  | .napWake => Sys2Proof.Machine.execNapWake s
  | .deepWake r => Sys2Proof.Machine.execDeepWake r s
  | .deepWakeTimeout rail => Sys2Proof.Machine.execDeepWakeTimeout rail s
  | .wakePin => Sys2Proof.Machine.execWakePin s
  | .setOp tag fails mv => Sys2Proof.Machine.execSetOp tag fails mv s
  | .quiesce tag => Sys2Proof.Machine.execQuiesce tag s
  | .resume tag => Sys2Proof.Machine.execResume tag s
  | .throttleStart iest oc => Sys2Proof.Machine.execThrottleStart iest oc s
  | .throttleEnd iest us => Sys2Proof.Machine.execThrottleEnd iest us s
  | .pmbAlert rail status => Sys2Proof.Machine.execPmbAlert rail status s
  | .overVoltage mv after hit => Sys2Proof.Machine.execOverVoltage mv after s hit
  | .overTemp sensor t hit => Sys2Proof.Machine.execOverTemp sensor t s hit
  | .supplyFault hit => Sys2Proof.Machine.execSupplyFault s hit
  | .xtalLoss => Sys2Proof.Machine.execXtalLoss s
  | .pwrgdLoss => Sys2Proof.Machine.execPwrgdLoss s
  | .porstAssert => Sys2Proof.Machine.execPorstAssert s
  | .porstRelease sel r => Sys2Proof.Machine.execPorstRelease sel r s
  | .calibComplete fails => Sys2Proof.Machine.execCalibComplete fails s
  | .heartbeatWrite v => Sys2Proof.Machine.execHeartbeatWrite v s
  | .heartbeatTimeout hit => Sys2Proof.Machine.execHeartbeatTimeout s hit
  | .bcHeartbeatTimeout d hit => Sys2Proof.Machine.execBcHeartbeatTimeout d s hit
  | .plumbLockstepMismatch hit => Sys2Proof.Machine.execPlumbLockstepMismatch s hit
  | .stateRequest page v done => Sys2Proof.Machine.execStateRequest page v done s
  | .stateRequestTimeout page => Sys2Proof.Machine.execStateRequestTimeout page s
  | .eventEmit => Sys2Proof.Machine.execEventEmit s
  | .evcCoalTimeout => Sys2Proof.Machine.execEvcCoalTimeout s
  | .mgpFrameReceive f t => Sys2Proof.Machine.execMgpFrameReceive f t s
  | .statusReq tag src => Sys2Proof.Machine.execStatusReq tag src s
  | .wake => Sys2Proof.Machine.execWake s
  | .mgpTransmit t => Sys2Proof.Machine.execMgpTransmit t s
  | .verifyLoad tag v => Sys2Proof.Machine.execVerifyLoad tag v s
  | .patVerify tag v => Sys2Proof.Machine.execPatVerify tag v s
  | .arbAdvance tag => Sys2Proof.Machine.execArbAdvance tag s
  | .attest tag => Sys2Proof.Machine.execAttest tag s
  | .identity tag => Sys2Proof.Machine.execIdentity tag s
  | .progOwner tag => Sys2Proof.Machine.execProgOwner tag s
  | .revoke tag => Sys2Proof.Machine.execRevoke tag s
  | .dbgUnlock tag v => Sys2Proof.Machine.execDbgUnlock tag v s
  | .xspiRead data fail => Sys2Proof.Machine.execXspiRead data fail s
  | .xspiProgram fail => Sys2Proof.Machine.execXspiProgram fail s
  | .xspiErase fail => Sys2Proof.Machine.execXspiErase fail s
  | .lowWordLatch a width => Sys2Proof.Machine.execLowWordLatch a width s
  | .readToClear a width => Sys2Proof.Machine.execReadToClear a width s
  | .registerWrite a width v => Sys2Proof.Machine.execRegisterWrite a width v s
  | .overTempCleared sensor t => Sys2Proof.Machine.execOverTempCleared sensor t s
  | .supplyRestored => Sys2Proof.Machine.execSupplyRestored s

end Sys2Proof.Machine
end

