-- ==== Sys2Proof/Machine/Step.lean ====
section
/-! DEFINITION. One step of the block: the command at the front of its queue. -/

namespace Sys2Proof.Machine

/-- With no command waiting the block idles for one tick of the gauge, while it counts (R239; log entry 29): it does not count in
OFF and DEEP, nor without main power. -/
def idle (s : State) : State :=
  if s.chip = .off ∨ s.chip = .deep ∨ s.powerLost = true then s else { s with gauge := s.gauge + 1 }

/-- The step: the command at the front runs on the state that holds the rest of the queue. -/
def step (s : State) : Host.Outcome State Fault Refusal :=
  match s.pending with
  | [] => .next (idle s)
  | c :: rest => exec c { s with pending := rest }

/-- The state with the command that a word spells at the front of its queue; the same state where it spells none. -/
def State.withFetchWord (s : State) (nbits w : Nat) : State :=
  match decodeTableWord nbits w with
  | some c => { s with pending := c :: s.pending }
  | none => s

end Sys2Proof.Machine
end

