-- ==== Sys2Proof/Safety.lean ====
section
/-! DEFINITION. What a state of the block keeps in every run: the canonical forms of its memory and of its register file, and the
words that statements about commands use: what a bench instruction needs to issue, and what a command leaves alone. -/

namespace Sys2Proof.Machine

/-! ### Canonical forms -/

/-- Local memory in its one form: locations strictly rising. An unlisted location reads as a free value (R26, log entry 2), which no
byte equals, so every byte that has been written is listed. -/
def Memory.wf (m : List Host.Cell) : Bool := spSorted m

/-- The register file in its one form: offsets strictly rising, and no register at its reset value. -/
def Registers.wf (l : Sparse Word) : Bool := spSorted l && l.all fun e => e.2 != regReset e.1

/-- What every step keeps. -/
def State.wf (s : State) : Bool := Memory.wf s.mem && Registers.wf s.regs

/-- Nothing has ended: the step answers a next state. -/
def Safe (s : State) : Prop := ∃ t, step s = .next t

/-! ### Frames -/

/-- Every register outside `l` reads as before. -/
def RegsKept (l : List Nat) (s t : State) : Prop := ∀ a, a ∉ l → rg t a = rg s a

/-- Every byte of local memory reads as before. -/
def MemKept (s t : State) : Prop := ∀ a, memByte t a = memByte s a

/-- Every byte of local memory reads as before, but for addresses of the locations that the `n` bytes at `a` name in `s`. -/
def MemKeptBut (a n : Nat) (s t : State) : Prop :=
  ∀ x, (∀ i, i < n → memLoc s x ≠ memLoc s (a + i)) → memByte t x = memByte s x

/-- Bench `b` has become `x`, and every other bench is as before. -/
def BenchIs (b : Nat) (x : Bench) (s t : State) : Prop := bench t b = x ∧ ∀ k, k ≠ b → bench t k = bench s k

/-- Of the whole state, only bench `b` has changed, to `x`: every other bench, every register, all of memory and every other field
are as before. -/
def OnlyBench (b : Nat) (x : Bench) (s t : State) : Prop := t = { s with benches := t.benches } ∧ BenchIs b x s t

/-- Of the whole state, only registers, the queue of events and the token's cause have changed. -/
def Logged (s t : State) : Prop := t = { s with regs := t.regs, evq := t.evq, cause := t.cause }

/-- Of the whole state, only benches, registers, the queue of events and the token's cause have changed. -/
def Worked (s t : State) : Prop := t = { s with benches := t.benches, regs := t.regs, evq := t.evq, cause := t.cause }

/-- What an event of page `p` may write in the page's header (R376, R453). -/
def hdrRegs (p : Nat) : List Nat := [Rg.HEALTH p, Rg.ERR_FIRST p, Rg.ERR_FIRST_GAUGE p, Rg.ERR_COUNT p]

/-- What an execution trap on bench `b` may write (R173). -/
def xtrapRegs (b : Nat) : List Nat :=
  [Rg.BENCH_XTRAP_OP b, Rg.BENCH_XTRAP_CAUSE b, Rg.BENCH_XTRAP_PC b, Rg.BENCH_XTRAP_COUNT b] ++ hdrRegs (Pg.BENCH b)

/-- What numeric traps and audit counts of bench `b` may write (R75 to R78). -/
def ntrapRegs (b : Nat) : List Nat :=
  [Rg.BENCH_NTRAP_OP b, Rg.BENCH_NTRAP_CAUSE b, Rg.BENCH_NTRAP_POS_LO b, Rg.BENCH_NTRAP_POS_HI b, Rg.BENCH_NTRAP_COUNT b]
    ++ hdrRegs (Pg.BENCH b)
def auditCounts (b : Nat) : List Nat := (List.range 16).flatMap fun n =>
  [Rg.BENCH_AUDn_SAT_LO b n, Rg.BENCH_AUDn_SAT_LO b n + 4, Rg.BENCH_AUDn_FLUSH_LO b n, Rg.BENCH_AUDn_FLUSH_LO b n + 4,
   Rg.BENCH_AUDn_UFL_LO b n, Rg.BENCH_AUDn_UFL_LO b n + 4]

/-- What a failed try comparison on bench `b` may write (R101). -/
def tryRegs (b : Nat) : List Nat :=
  [Rg.BENCH_TRY_SKIP b, Rg.BENCH_TRY_COUNT b, Rg.BENCH_TRY_STAT b, Rg.BENCH_TRY_OP b, Rg.BENCH_TRY_POS_LO b,
   Rg.BENCH_TRY_POS_HI b] ++ hdrRegs (Pg.BENCH b)

/-- What uncorrectable words met by reads of the tray of bench `b` may write (R216, R238). -/
def trayUeRegs (b : Nat) : List Nat := Rg.TRAY_ECC_UE b :: hdrRegs (Pg.TRAY b)

/-- What a draw of bench `b` may write: a trap, and GRAIN_WRAP's own record (R126). -/
def drawRegs (b : Nat) : List Nat := Rg.PLANE_GRAIN_STAT b :: xtrapRegs b ++ hdrRegs (Pg.PLANE b)

/-- What a witness record may write (R43). -/
def ringRegs : List Nat := [Rg.SEAL_WRING_WR, Rg.SEAL_WIT_LOST]

/-- The address of the next record of the witness ring (R43). -/
def witSlot (s : State) : Nat :=
  base48 s Rg.SEAL_WRING_BASE_LO + (rg s Rg.SEAL_WRING_WR).toNat % 2 ^ bits (rg s Rg.SEAL_WIT_CTRL) 20 16 * 32

/-- Bench `b` has acted on itself: beside it, only registers of `A`, the queue of events, the token's cause and the requests to
global clamps have changed. -/
def Acted (b : Nat) (A : List Nat) (s t : State) : Prop :=
  t = { s with benches := t.benches, regs := t.regs, evq := t.evq, cause := t.cause, gclampReq := t.gclampReq } ∧
    RegsKept A s t ∧ MemKept s t ∧ ∀ k, k ≠ b → bench t k = bench s k

/-- What a word that arrives at a memory controller with a parity error may write (R217). -/
def parRegs : List Nat := (List.range 8).flatMap fun j => Rg.JMC_PAR_COUNT j :: hdrRegs (Pg.JMC j)

/-- As `Acted`, for what may also write a witness record and draw: memory is kept but for the record's place in the ring. -/
def ActedWit (b : Nat) (A : List Nat) (s t : State) : Prop :=
  t = { s with benches := t.benches, regs := t.regs, evq := t.evq, cause := t.cause, gclampReq := t.gclampReq,
               mem := t.mem, memBad := t.memBad, parAt := t.parAt, free := t.free } ∧
    RegsKept (ringRegs ++ parRegs ++ A) s t ∧ MemKeptBut (witSlot s) 32 s t ∧ ∀ k, k ≠ b → bench t k = bench s k

/-- The completion add of the word `w` at the program counter of stream `t` (R166): one request to the clamp it names, if it enables
it. -/
def completionReq (b : Nat) (t : Stream) (w : IWord) (s : State) : ClampReq :=
  { n := w.cq.toNat, src := none, v := 1, op := some (t, (str s b t).pc) }
def Completed (b : Nat) (t : Stream) (w : IWord) (s s' : State) : Prop :=
  s'.gclampReq = s.gclampReq ++ (if w.ce && w.g then [completionReq b t w s] else []) ∧
    (bench s' b).clampReq = (bench s b).clampReq ++ (if w.ce && !w.g then [completionReq b t w s] else [])

/-- No completion add has been made. -/
def NotCompleted (b : Nat) (s t : State) : Prop :=
  t.gclampReq = s.gclampReq ∧ (bench t b).clampReq = (bench s b).clampReq

/-! ### Issue -/

/-- The bench with stream `t` changed by `f`. -/
def Bench.onStr (x : Bench) (t : Stream) (f : StreamSt → StreamSt) : Bench := x.setStr t (f (x.str t))

/-- The bench after stream `t` has issued the instruction at its program counter. -/
def Bench.past (x : Bench) (t : Stream) : Bench :=
  x.onStr t fun y => { y with pc := y.pc + 1, state := .run, wait := none, stall := none, mark := none, late := 0 }

/-- The bench `y` after the prefetcher has requested what the issue of the instruction at the program counter of stream `t` of bench
`b` in `s` lets it request (R137). -/
def Bench.fetched (y : Bench) (b : Nat) (t : Stream) (s : State) : Bench :=
  y.onStr t fun x => { x with reqs := x.reqs ++ prefetchReqs (winBlocks s b t) (Machine.str s b t).pc x }

/-- The same after an instruction that takes a draw: with NEXT = 1 the stream's counter has gone up, but at its limit (R126). -/
def Bench.pastDraw (x : Bench) (t : Stream) (next : Bool) : Bench :=
  (x.past t).onStr t fun y => if next ∧ y.cnt ≠ 0xFFFF then { y with cnt := y.cnt + 1 } else y

/-- Stream `t` of bench `b` finds the word `w` at its program counter, no rule of the sequencer forbids it, its resource is granted
and nothing holds it back (R139, R164): the judgement before the instruction's own rules. -/
def Judged (sp : ISpec) (b : Nat) (t : Stream) (w : IWord) (s : State) : Prop :=
  reach s b t w = .word ∧ fieldsOk sp.map sp.opc t w = true ∧ sp.legal b w s = true ∧
    (∀ f, sp.res = some f → granted (bench s b) t f = true) ∧ sp.hold b t w s = none

/-- The instructions of a bench that the word `w` may be run as, each with how it is judged (Table 7-2). -/
def benchInstrs (b : Nat) (t : Stream) (w : IWord) : List (Instr × ISpec) :=
  [(.nop b t w, spNop), (.loop b t w, spLoop), (.endl b t w, spEndl), (.waitg b t w, spWaitg), (.holdpt b t w, spHoldpt),
   (.trapI b t w, spTrap), (.seal b t w, spSeal), (.clset b t w, spClset), (.cladd b t w, spCladd),
   (.clwait b t w, spClwait), (.qpush b t w, spQpush), (.qpop b t w, spQpop), (.tile b t w, spTile), (.tclr b t w, spTclr),
   (.tdrain b t w, spTdrain), (.ttap b t w, spTtap), (.hada b t w, spHada), (.vop b t w, spVop), (.vfma b t w, spVfma),
   (.vred b t w, spVred), (.vscan b t w, spVscan), (.vascan b t w, spVascan), (.vcvt b t w, spVcvt), (.vtrf b t w, spVtrf),
   (.vgrain b t w, spVgrain), (.vven b t w, spVven), (.vunv b t w, spVunv), (.witness b t w, spWitness),
   (.dmal b t w, spDmal), (.dmas b t w, spDmas), (.dmax b t w, spDmax), (.rsend b t w, spRsend), (.rread b t w, spRread),
   (.glue b t w, spGlue), (.rclamp b t w, spRclamp), (.shadow b t w, spShadow), (.chkcmp b t w, spChkcmp)]

/-- The tensor-writing plane instructions (Table 7-2): those that a SHADOW may mark. -/
def planeInstrs (b : Nat) (t : Stream) (w : IWord) : List (Instr × ISpec) :=
  [(.vop b t w, spVop), (.vfma b t w, spVfma), (.vred b t w, spVred), (.vscan b t w, spVscan), (.vascan b t w, spVascan),
   (.vcvt b t w, spVcvt), (.vtrf b t w, spVtrf), (.vgrain b t w, spVgrain), (.vven b t w, spVven), (.vunv b t w, spVunv)]

/-- The word issues as the instruction `sp`, unmarked by a SHADOW, and breaks none of the rules that suppress it (R173). -/
def Issues (sp : ISpec) (b : Nat) (t : Stream) (w : IWord) (s : State) : Prop :=
  Judged sp b t w s ∧ (str s b t).mark = none ∧ lowest (sp.rules b t w s) = none

/-- The bench's streams alone have changed. -/
def StreamsOnly (x y : Bench) : Prop := y = { x with f := y.f, b := y.b, u := y.u }

/-! ### Plane instructions (chapter 5) -/

/-- The request that a completion clamp of the given network takes from bench `b`; in TEST no global clamp takes one (R104). -/
def ccReq (b : Nat) (s : State) (cc : Option CClamp) (glob : Bool) : List ClampReq :=
  match cc with
  | some c => if c.glob = glob ∧ (glob = true → inTest s b = false) then [{ n := c.n, src := none, v := 1, op := some c.op }] else []
  | none => []

/-- What a plane instruction of bench `b` may write beside the witness ring. -/
def planeRegs (b : Nat) : List Nat :=
  [Rg.PLANE_STAT b, Rg.PLANE_GRAIN_MISS b] ++ drawRegs b ++ ntrapRegs b ++ auditCounts b ++ trayUeRegs b

/-- Bench `b` after a plane instruction `w` of stream `t`, its tray as in `y`: its stream has moved on, an entry that it read is
released unless KEEP is set, a tap that it read to its last beat is closed and has completed, and so has the instruction (R94, R108,
R166). -/
def PlaneDone (b : Nat) (t : Stream) (w : IWord) (usesEntry tapRead : Bool) (y : Bench) (s s' : State) : Prop :=
  let x := bench s b
  let cc := ccOf { ce := true } t (str s b t).pc w
  let tapCc : Option CClamp := if tapRead then x.tap.bind (·.cc) else none
  bench s' b = Bench.fetched { x.pastDraw t (plNext w) with
    tray := y.tray, trayBad := y.trayBad,
    outfeed := if usesEntry = true ∧ plKeep w = false then x.outfeed.tail else x.outfeed,
    tap := if tapRead then none else x.tap,
    clampReq := x.clampReq ++ ccReq b s tapCc false ++ ccReq b s cc false } b t s ∧
  s'.gclampReq = s.gclampReq ++ ccReq b s tapCc true ++ ccReq b s cc true

/-- An element-wise plane instruction has written the output positions `os` of its sources `p`, and changed nothing else. -/
def ElemDone (b : Nat) (t : Stream) (w : IWord) (p : PSrc) (scales : Bool) (os : List POut) (s s' : State) : Prop :=
  ActedWit b (planeRegs b) s s' ∧ PlaneDone b t w p.usesEntry p.tapRead (putOut p.out scales os (bench s b)) s s'

/-! ### Transfers and remote operations (sections 7.8 and 9.6, chapter 12) -/

/-- What uncorrectable blocks and parity errors met at the memory controllers may write (R216, R217, R236). -/
def jmcRegs : List Nat := (List.range 8).flatMap fun j =>
  [Rg.JMC_UE_COUNT j, Rg.JMC_PAR_COUNT j, Rg.JMC_UE_ADDR_LO j, Rg.JMC_UE_ADDR_HI j, Rg.JMC_GUARD_REF j] ++ hdrRegs (Pg.JMC j)

/-- The ticket that the word `w` takes at issue: the lowest free one (R187). -/
def newTicket (b : Nat) (t : Stream) (w : IWord) (op : TktOp) (td : Option TDesc) (sb : Option (Nat × Nat))
    (st : TktStatus) (flow : Option Nat) (s : State) : Ticket :=
  { n := (freeTicket (bench s b)).getD 0, stream := t, pc := (str s b t).pc, opid := w.opid, op := op, bc := w.bc.toNat,
    cc := ccOf { ce := true } t (str s b t).pc w, td := td, sb := sb, status := st, flow := flow, tag := w.aux.toNat % 256,
    left := match op, td with
      | .dmal, some d | .dmas, some d | .dmax, some d => (xferPieces d).length
      | _, _ => 1 }

/-- Bench `b` has issued an instruction that takes the ticket `k`: the ticket was free, and beside its stream and the ticket nothing
of the bench has changed. -/
def TookTicket (b : Nat) (t : Stream) (k : Ticket) (s s' : State) : Prop :=
  freeTicket (bench s b) = some k.n ∧
    bench s' b = Bench.fetched { (bench s b).past t with tickets := (bench s b).tickets ++ [k] } b t s

/-- The operation `p` of ticket number `no` waits in context `c` with its flits, its report is awaited, and the timer is armed (R293,
R294, R303). -/
def Queued (c : Nat) (p : OpPay) (no : Nat) (data scales : List Byte) (read : Option TDesc) (s s' : State) : Prop :=
  let fs := opFlits p no data scales
  (∀ k, flow s' k = if k = c then { flow s c with
      txq := (flow s c).txq ++ fs,
      ops := (flow s c).ops ++ [{ tkt := no, addr := p.addr, rows := p.rows, mstride := p.mstride, read := read, got := [], left := fs.length }] }
    else flow s k) ∧
  ctxF s' c 6 15 0 = ctxF s c 2 31 16 ∧ ctxF s' c 6 31 16 = ctxF s c 6 31 16

/-- A remote operation has been issued: as `ActedWit`, and its flow context has changed too. -/
def ActedFlow (b c : Nat) (A : List Nat) (s t : State) : Prop :=
  t = { s with benches := t.benches, regs := t.regs, evq := t.evq, cause := t.cause, gclampReq := t.gclampReq,
               mem := t.mem, memBad := t.memBad, parAt := t.parAt, free := t.free, flows := t.flows } ∧
    RegsKept (ctxReg c 6 :: ringRegs ++ parRegs ++ A) s t ∧ MemKeptBut (witSlot s) 32 s t ∧ ∀ k, k ≠ b → bench t k = bench s k

/-- A ticket has ended with a status (R226): it is free, the completion add of its instruction takes place, and a status other than OK
and ABANDON has raised DMA_ERR. -/
def TicketEnded (b : Nat) (k : Ticket) (st : TktStatus) (s s' : State) : Prop :=
  (bench s' b).tickets = (bench s b).tickets.filter (·.n ≠ k.n) ∧
  (bench s' b).clampReq = (bench s b).clampReq ++ ccReq b s k.cc false ∧ s'.gclampReq = s.gclampReq ++ ccReq b s k.cc true ∧
  rg s' (Rg.BENCH_XTRAP_COUNT b) = (if st = .ok ∨ st = .abandon then rg s (Rg.BENCH_XTRAP_COUNT b)
    else word (min 0xFFFFFFFF ((rg s (Rg.BENCH_XTRAP_COUNT b)).toNat + 1)))

/-! ### Pages and sequencers -/

/-- A write that acts on a page at once is taken: the part is manageable, the page is not fenced and Plumb's sequencers agree (R348,
R355, R433). -/
def PageOpen (page : Nat) (s : State) : Prop :=
  manageable s = true ∧ fencedDom s (pageFenceDom (regCls page) (regInst page)) = false ∧ bit (rg s Rg.PLUMB_STAT) 29 = true

/-- A wait of stream `t`, at the instruction at `pc`, has reached its bound (R157): the stream is in FAULT, the first fault of the step is
latched with its code and `pc` (R159), the token of a live step outside TEST is void, and nothing else of the bench has changed. -/
def SyncFaulted (b code : Nat) (t : Stream) (glob : Bool) (q pc : Nat) (s s' : State) : Prop :=
  Worked s s' ∧ MemKept s s' ∧
    BenchIs b ((bench s b).onStr t fun x => { x with state := .fault, wait := none, stall := none }) s s' ∧
    RegsKept (Rg.SEQ_SYNC_FAULT b :: Rg.SEQ_SYNC_PC b :: hdrRegs (Pg.SEQ b)) s s' ∧
    s'.cause = (if inTest s b = false ∧ stepLive s = true then s.cause ||| 8 else s.cause) ∧
    (bit (rg s (Rg.SEQ_SYNC_FAULT b)) 31 = true → RegsKept (hdrRegs (Pg.SEQ b)) s s') ∧
    (bit (rg s (Rg.SEQ_SYNC_FAULT b)) 31 = false →
      rg s' (Rg.SEQ_SYNC_FAULT b) =
        word (0x80000000 + code * 0x10000000 + strNo t * 0x1000000 + b2n glob * 0x10000 + q % 256) ∧
      rg s' (Rg.SEQ_SYNC_PC b) = word pc)

/-! ### Clamps (R145) -/

/-- What a stream in WAIT asks of clamp `n`: its threshold, and whether it releases. -/
def clampAsked (glob : Bool) (n : Nat) (x : StreamSt) : Option (Nat × Bool) :=
  match x.state, x.wait with
  | .wait, some (.clamp g m t rel _) => if g = glob ∧ m = n then some (t, rel) else none
  | _, _ => none

/-- The loop of R145 over waiting streams in order: the value left, and which of them are satisfied. -/
def clampServe : Nat → List (Option (Nat × Bool)) → Nat × List Bool
  | v, [] => (v, [])
  | v, some (t, rel) :: l =>
    if t ≤ v then let r := clampServe (if rel then v - t else v) l
      (r.1, true :: r.2)
    else let r := clampServe v l
      (r.1, false :: r.2)
  | v, none :: l => let r := clampServe v l
    (r.1, false :: r.2)

/-- A stream that leaves its wait: the instruction it waited in has completed (R139, R140, R145). -/
def StreamSt.left (x : StreamSt) : StreamSt := { x with state := .run, wait := none, pc := x.pc + 1 }

/-! ### Steps and the seal (chapter 13, section 12.8) -/

/-- The registers of an applied decision (R312 to R314), of the digests that a step leaves (R461), and of the event of its end. -/
def decRegs : List Nat :=
  [Rg.SEAL_STAT, Rg.SEAL_STEP_STAT, Rg.SEAL_DEC_CAUSE, Rg.SEAL_DEC_COUNT, Rg.SEAL_DEC_FIRST, Rg.SEAL_DEC_WSUM_LO,
   Rg.SEAL_DEC_WSUM_HI, Rg.SEAL_DEC_STEP_LO, Rg.SEAL_DEC_STEP_HI, Rg.SEAL_LAST_COMMIT_LO, Rg.SEAL_LAST_COMMIT_HI,
   Rg.LKD_CAP_WR 0, Rg.LKD_CAP_WR 1, Rg.LKD_CAP_LOST 0, Rg.LKD_CAP_LOST 1] ++ parRegs ++ hdrRegs Pg.SEALU

/-- The control words of the commit table (R231). -/
def guardCtls : List Nat := (List.range 8).flatMap fun j => (List.range 64).map fun n => Rg.JMC_GRn_CTL j n

/-- The SEAL flit of a token (KIND 1) or a decision (KIND 2). -/
def sealFlit (kind : Nat) (t : Token) : TxFlit := { typ := .seal, last := false, pay := tokenBytes kind t, tkt := none }

/-- The SEAL_DEC registers show the decision `t`. -/
def DecRecorded (t : Token) (s : State) : Prop :=
  bits (rg s Rg.SEAL_STAT) 30 29 = 2 + b2n t.clean ∧ rg s Rg.SEAL_DEC_CAUSE = word t.cause ∧
    rg s Rg.SEAL_DEC_COUNT = word t.count ∧ rg64 s Rg.SEAL_DEC_WSUM_LO = t.wsum ∧
    rg64 s Rg.SEAL_DEC_STEP_LO = BitVec.ofNat 64 (t.step % 2 ^ 48)

/-- The decision `t` has been applied and sent to the contexts `dests`: the step is COMMITTED, its armed regions flipped in all eight
copies of the table and its number taken, or VOID; the chip has left RUN (R230, R313, R325). -/
def Decided (t : Token) (dests : List Nat) (s s' : State) : Prop :=
  s' = { s with regs := s'.regs, flows := s'.flows, mem := s'.mem, memBad := s'.memBad, evq := s'.evq, parAt := s'.parAt, cause := s'.cause,
                stepSt := if t.clean then .committed else .void, chip := if s.chip = .run then .ready else s.chip,
                chipPrev := if s.chip = .run then .run else s.chipPrev } ∧
    (s.stepSt ≠ .close → s'.mem = s.mem) ∧ DecRecorded t s' ∧
    (t.clean = true → rg64 s' Rg.SEAL_LAST_COMMIT_LO = BitVec.ofNat 64 (2 ^ 63 + s.stepNo % 2 ^ 48) ∧
      RegsKept (guardCtls ++ decRegs) s s' ∧
      (∀ r, r ∈ regionsOf s 0 → r.arm = true → ∀ j, j < 8 → rg s' (Rg.JMC_GRn_CTL j r.n) = flipCtl (rg s (Rg.JMC_GRn_CTL 0 r.n))) ∧
      ∀ n, n < 64 → (∀ r, r ∈ regionsOf s 0 → r.n = n → r.arm = false) → ∀ j, j < 8 →
        rg s' (Rg.JMC_GRn_CTL j n) = rg s (Rg.JMC_GRn_CTL j n)) ∧
    (t.clean = false → RegsKept decRegs s s') ∧
    (∀ c, c ∈ dests → (flow s' c).txq.getLast? = some (sealFlit 2 t)) ∧ ∀ c, c ∉ dests → flow s' c = flow s c

/-- The member has finished its token `t` and given it to the parent's context `p`, or found it not ACTIVE, and is SEALED (R311). -/
def TokenSent (p : Nat) (t : Token) (s s' : State) : Prop :=
  s' = { s with regs := s'.regs, flows := s'.flows, mem := s'.mem, memBad := s'.memBad, evq := s'.evq, parAt := s'.parAt, cause := s'.cause,
                stepSt := .sealed } ∧
    RegsKept (Rg.GAU_DL_STAT :: decRegs) s s' ∧
    (ctxValid s p = true → ctxState s p = 1 → bit (rg s' Rg.SEAL_STAT) 31 = true ∧
      ∀ c, flow s' c = if c = p then { flow s p with txq := (flow s p).txq ++ [sealFlit 1 t] } else flow s c) ∧
    (¬ (ctxValid s p = true ∧ ctxState s p = 1) → bit (rg s' Rg.SEAL_STAT) 27 = true ∧ s'.flows = s.flows)

/-- Some child has not sent its token. -/
def childMissing (s : State) : Prop := ∃ c, c ∈ childCtxs s ∧ ∀ e, e ∈ s.childToks → e.1 ≠ c

/-- The decision of the root on its finished token `t` (R312). -/
def rootToken (t : Token) (s : State) : Token :=
  let same := t.count = bits (rg s Rg.SEAL_DECL) 14 0
  { t with clean := t.clean && same, cause := if same then t.cause else t.cause ||| 2 ^ 9 }

/-- A member's finished token `t` is decided by the root, or sent to the parent. -/
def Finished (t : Token) (s s' : State) : Prop :=
  (∀ p, parentCtx s = some p → TokenSent p t s s') ∧
    (parentCtx s = none → ((rootToken t s).clean = true → tablesAgree s = true) → Decided (rootToken t s) (childCtxs s) s s')

/-- The flit `f`, arrived in a slot at `g`, waits first on spline `spl` and passes the checks of Tables 11-10 and 12-5; `u` is the state
once it has been taken and checked. -/
def Passes (spl g : Nat) (f : Flit) (s u : State) : Prop :=
  (∃ rest, (spline s spl).rxq = (g, f) :: rest ∧
    flowCheck f (modSpline spl (fun x => { x with rxq := rest }) s) = (true, u)) ∧
    destOk s f = true ∧ freshOk s g f = true

/-! ### Commands of the CHIP page (R380 to R382) -/

/-- A COMMAND write that Table 15-6 accepts in the chip states `states` is not refused for the chip's state, nor because another
command is in progress. -/
def CmdOpen (states : List ChipState) (s : State) : Prop := PageOpen Pg.CHIP s ∧ s.chip ∈ states ∧ cmdBusy s = false

/-- COMMAND_STATUS of a command that is in progress, and of one that has completed (Table 15-5). -/
def cmdWait (opc : Nat) (tag : BitVec 16) : Word := word (0x80000000 + opc * 0x10000 + tag.toNat)
def cmdWord (opc : Nat) (tag : BitVec 16) (result : Nat) : Word :=
  word (0x40000000 + result * 0x1000000 + opc * 0x10000 + tag.toNat)

/-! ### Splines, the gauge and rest (chapters 10, 11 and 14) -/

/-- Spline `x` has become `p`, and every other spline is as before. -/
def SplineIs (x : Nat) (p : SplineSt) (s s' : State) : Prop := spline s' x = p ∧ ∀ k, k ≠ x → spline s' k = spline s k

/-- Of the whole state, only splines, registers, the gauge, waiting events and the free counter have changed. -/
def LinkOnly (s s' : State) : Prop :=
  s' = { s with splines := s'.splines, regs := s'.regs, gauge := s'.gauge, evq := s'.evq, free := s'.free } ∧ MemKept s s'

/-- Spline `x` is in FAULT with `cause`; only its registers and `A` have changed (Table 11-13). -/
def Faulted (x cause : Nat) (A : List Nat) (s s' : State) : Prop :=
  LinkOnly s s' ∧ linkState s' x = linkFault ∧ bits (rg s' (Rg.SPL_STAT x)) 28 24 = cause ∧
    RegsKept (Rg.SPL_STAT x :: Rg.STATE (Pg.SPLINE x) :: hdrRegs (Pg.SPLINE x) ++ A) s s' ∧
    ∀ k, k ≠ x → spline s' k = spline s k

/-- The chip states from which rest is entered (Table 15-3). -/
def restable (s : State) : Prop := s.chip = .ready ∨ s.chip = .run ∨ s.chip = .quiesce ∨ s.chip = .test

/-- Plumb drives rest with cause `c` of Table 14-4: the chip is in REST, a step under way is VOID, and the first cause is latched (R350
to R352). -/
def Rested (c : Nat) (s s' : State) : Prop :=
  s'.chip = .rest ∧ s'.restN = true ∧ bit (rg s' Rg.PLUMB_STAT) 31 = true ∧ rg s' Rg.PLUMB_REST_CAUSE = word (0x80000000 + c) ∧
    (stepLive s = true → s'.stepSt = .void ∧ s'.cause.testBit 7 = true) ∧ (stepLive s = false → s'.stepSt = s.stepSt) ∧
    s'.stepNo = s.stepNo ∧ (s.stepSt ≠ .close → s'.mem = s.mem)

/-- The gauge is in DOUBT with `cause`: every spline is in FAULT and holds no flit, and Plumb drives rest (R257, R259). -/
def Doubted (cause : Nat) (s s' : State) : Prop :=
  gauState s' = gauDoubt ∧ bits (rg s' Rg.GAU_STAT) 31 28 = cause ∧
    (∀ x, x < 16 → linkState s' x = linkFault ∧ (spline s' x).rxq = []) ∧ bit (rg s' Rg.PLUMB_REST_PEND) 1 = true ∧
    (restable s → Rested 1 s s')

/-! ### Fences and resets (section 14.5) -/

/-- Block states of the pages of domain `d`, the injections of its benches (R103), and the events of their fence. -/
def domRegs (d : Nat) : List Nat := (domPages d).map Rg.STATE ++ (domBenches d).map Rg.BENCH_TRY_INJ ++ hdrRegs Pg.PLUMB

/-- A reset of domain `d` has been asked for (R355, R356, R358): the domain is fenced, its blocks in service are FENCED, and its reset
waits for the drain; a fence of the benches freezes them and voids the step. -/
def ResetAsked (d : Nat) (s s' : State) : Prop :=
  s' = { s with regs := s'.regs, evq := s'.evq, fenced := setIns d s.fenced, chipTries := s'.chipTries, fencedPl := s'.fencedPl,
                frozen := s.frozen || domHolds d 0x1000, resets := s'.resets,
                cause := if domHolds d 0x1000 = true ∧ stepLive s = true then s.cause ||| 2 ^ 7 else s.cause } ∧ MemKept s s' ∧
    (∃ r, s'.resets = s.resets ++ [r] ∧ r.dom = d ∧ r.running = false ∧ r.late = false ∧
      r.was = (domBenches d).map fun b => (b, blkState s (Pg.BENCH b))) ∧
    ∀ p, p ∈ domPages d → blkState s' p = if blkState s p = 0 then 0 else 4

/-! ### The security block (R405) -/

/-- SEC_STAT of a command that has completed with `code`, 0 for OK (Table 16-9). -/
def secWord (opc : Nat) (tag : BitVec 16) (code : Nat) : Word :=
  word (0x40000000 + (if code = 0 then 0 else 0x10000000) + code * 0x1000000 + opc * 0x10000 + tag.toNat)

end Sys2Proof.Machine
end

