-- ==== Sys2Proof/WellFormed.lean ====
section
/-! DEFINITION. Which commands are well formed: their numbers name units that the part has, and their values fit the fields that
carry them. A word of a bench instruction is well formed whatever its fields: the bench itself judges them (R164). -/

namespace Sys2Proof

/-- Physical bench, spline, stack, flow context and ticket numbers (Table 1-3, R13, R226, R290). -/
def benchNo (b : Nat) : Bool := decide (b < 132)
def splineNo (x : Nat) : Bool := decide (x < 16)
def stackNo (j : Nat) : Bool := decide (j < 8)
def flowNo (c : Nat) : Bool := decide (c < 3072)
def ticketNo (n : Nat) : Bool := decide (n < 64)
/-- Rails and junction sensors (Tables 17-1 and 15-10). -/
def railNo (r : Nat) : Bool := decide (r < 9)
def sensorNo (k : Nat) : Bool := decide (k < 64)
def tempOk (t : Int) : Bool := decide (-128 ≤ t ∧ t < 128)
/-- A local address (Table 9-1). -/
def addrOk (a : Nat) : Bool := decide (a < 2 ^ 48)
/-- Domain codes of block controllers, and of every domain (R354). -/
def fwNo (d : Nat) : Bool :=
  decide ((0x50C0 ≤ d ∧ d < 0x50C8) ∨ (0x5100 ≤ d ∧ d < 0x5110) ∨ d = 0x5180 ∨ d = 0x5200 ∨ d = 0x52C0)
def domNo (d : Nat) : Bool :=
  decide (d = 0 ∨ d = 0x1000 ∨ (0x2000 ≤ d ∧ d < 0x2084) ∨ d = 0x3000 ∨ d = 0x3001 ∨ d = 0x4000) || fwNo d
/-- A page of the management space, and an access to it (R20, R445). -/
def pageNoOk (p : Nat) : Bool := decide (p < 2 ^ 26 ∧ p % 4096 = 0)
def mgmtOk (a width : Nat) : Bool := decide (a < 2 ^ 26) && [1, 2, 4, 8].contains width
/-- A command that meets an action of Plumb is a write to a page (R18). -/
def hitOk : Option CmdHit → Bool
  | none => true
  | some h => pageNoOk h.page && decide (h.off < 4096 ∧ h.off % 4 = 0 ∧ h.v < 2 ^ 32)
/-- A late item (Table 6-4). -/
def lateOk : LateItem → Bool
  | .ticket b n => benchNo b && ticketNo n
  | .block b _ _ => benchNo b
/-- The fields of an echo reply fit it (Table 11-7). -/
def echoOk (m : EchoMeas) : Bool := decide (m.sg < 2 ^ 32 ∧ m.sched < 2 ^ 32 ∧ m.swId < 2 ^ 16 ∧ m.port < 2 ^ 8)
/-- What a boot finds names stacks and sets that exist (R395, R401). -/
def bootOk (r : BootRes) : Bool := r.stackFail.all stackNo && r.imgs.all fun i => decide (i.set < 2 ∧ i.off % 4096 = 0)
/-- A telemetry sample has every sensor, base die and rail (Table 15-10). -/
def sampleOk (q : TelSample) : Bool :=
  decide (q.temps.length = 64 ∧ q.dies.length = 8 ∧ q.rails.length = 9) && q.temps.all tempOk && q.dies.all tempOk
/-- The fields of a frame fit it (R390). -/
def frameOk (f : Frame) : Bool := decide (f.dst < 2 ^ 48 ∧ f.src < 2 ^ 48 ∧ f.etype < 2 ^ 16)

/-- The command is well formed. -/
def Instr.wf : Instr → Bool
  | .nop b _ _ => benchNo b
  | .loop b _ _ => benchNo b
  | .endl b _ _ => benchNo b
  | .waitg b _ _ => benchNo b
  | .waitgRelease _ => true
  | .holdpt b _ _ => benchNo b
  | .trapI b _ _ => benchNo b
  | .seal b _ _ => benchNo b
  | .clset b _ _ => benchNo b
  | .cladd b _ _ => benchNo b
  | .clwait b _ _ => benchNo b
  | .clampUpdate glob b n _ => benchNo b && decide (n < if glob then 64 else 256)
  | .qpush b _ _ => benchNo b
  | .queueEntryArrive b => benchNo b
  | .qpop b _ _ => benchNo b
  | .tile b _ _ => benchNo b
  | .tclr b _ _ => benchNo b
  | .tdrain b _ _ => benchNo b
  | .drainStart b => benchNo b
  | .outfeedEntryVisible b => benchNo b
  | .ttap b _ _ => benchNo b
  | .hada b _ _ => benchNo b
  | .vop b _ _ => benchNo b
  | .vfma b _ _ => benchNo b
  | .vred b _ _ => benchNo b
  | .vscan b _ _ => benchNo b
  | .vascan b _ _ => benchNo b
  | .vcvt b _ _ => benchNo b
  | .vtrf b _ _ => benchNo b
  | .vgrain b _ _ => benchNo b
  | .vven b _ _ => benchNo b
  | .vunv b _ _ => benchNo b
  | .witness b _ _ => benchNo b
  | .dmal b _ _ => benchNo b
  | .dmas b _ _ => benchNo b
  | .dmax b _ _ => benchNo b
  | .rsend b _ _ => benchNo b
  | .rread b _ _ => benchNo b
  | .glue b _ _ => benchNo b
  | .rclamp b _ _ => benchNo b
  | .shadow b _ _ => benchNo b
  | .chkcmp b _ _ => benchNo b
  | .shadowCompare b tag => benchNo b && decide (tag < 256)
  | .ticketComplete b n par => benchNo b && ticketNo n && par.all fun p => decide (p.1 + p.2 ≤ 2 ^ 48)
  | .dmaLastByte b n par => benchNo b && ticketNo n && par.all fun p => decide (p.1 + p.2 ≤ 2 ^ 48)
  | .prefetchBlockArrive b _ blk par => benchNo b && decide (blk < 2 ^ 26) && par.all (· < 64)
  | .lockstepMismatch b _ => benchNo b
  | .holdDetect cls it => decide (cls < 8) && lateOk it
  | .holdRelease => true
  | .holdResume _ => true
  | .holdTimeout begun => begun.all fun g => benchNo g.1 && ticketNo g.2.1
  | .unitTimeout b _ => benchNo b
  | .clampTimeout b _ => benchNo b
  | .freezeArm _ => true
  | .freezeDump => true
  | .freezeAbandon => true
  | .freezeResumeContinue => true
  | .freezeResumeLoad => true
  | .streamStart b _ _ _ => benchNo b
  | .streamStop b _ => benchNo b
  | .streamRun b _ => benchNo b
  | .tryInject b _ => benchNo b
  | .tableCheck b => benchNo b
  | .tableCheckDone b _ => benchNo b
  | .stepOpen => true
  | .stepRun => true
  | .stepClose => true
  | .sealTokenReceive spl => splineNo spl
  | .sealChildTimeout => true
  | .sealDecisionReceive spl => splineNo spl
  | .sealedTimeout => true
  | .resolveVoid => true
  | .resolveCommit => true
  | .stepDeadline => true
  | .slotTransmit x g _ => splineNo x && decide (g % 8 = 0)
  | .slotReceive x g _ lanes => splineNo x && decide (g % 8 = 0) && lanes.length == 9 && lanes.all fun l => l.all fun v => decide (v < 4)
  | .ackTimeout x _ => splineNo x
  | .opReceive spl _ => splineNo spl
  | .dataReceive spl _ => splineNo spl
  | .respReceive spl par => splineNo spl && par.all fun p => stackNo p.1 && decide (p.2 < 256)
  | .fackReceive spl => splineNo spl
  | .creditReceive spl => splineNo spl
  | .errorReceive spl => splineNo spl
  | .echoReqReceive x => splineNo x
  | .glueUp fmt a bs ea _ => decide (fmt < 256) && addrOk a && addrOk ea && decide (bs.length = 32 ∨ bs.length = 96)
  | .flowTimeout c => flowNo c
  | .flowContextWrite c k _ => flowNo c && decide (k < 8)
  | .epochChange _ => true
  | .echoExchange x _ _ => splineNo x
  | .echoReply x m => splineNo x && echoOk m
  | .echoNoReply x => splineNo x
  | .train x => splineNo x
  | .trainComplete x _ _ => splineNo x
  | .trainTimeout x => splineNo x
  | .mute x => splineNo x
  | .laneJudge x ls => splineNo x && ls.length == 9
  | .laneSwapComplete x => splineNo x
  | .knockRecognised x => splineNo x
  | .load x => splineNo x
  | .arm x => splineNo x
  | .disarm x => splineNo x
  | .cutlistActivate x => splineNo x
  | .keyArm x => splineNo x
  | .keyChange x => splineNo x
  | .gaugeLoadArm _ => true
  | .gmarkEdge _ => true
  | .gmarkMissing => true
  | .gaugeArmTimeout => true
  | .grefLoss => true
  | .grefReturn _ => true
  | .holdoverLimit => true
  | .pllLockLoss => true
  | .gaugeMonitorFault => true
  | .telemetrySample q => sampleOk q
  | .xrefBegin j => stackNo j
  | .xrefEnd j => stackNo j
  | .scrubRead gc a t res _ => decide (gc < 256 ∧ t < 2 ^ 64) && addrOk a && decide (res < 3)
  | .jmcAccess a _ _ _ _ _ tce _ par => addrOk a && tce.all (fun e => benchNo e.1) && par.all fun w => decide (w / 64 = a / 256)
  | .cabinetMemAccess a n data _ => addrOk a && match data with | some bs => bs.length == n | none => true
  | .ticketTimeout b n _ => benchNo b && ticketNo n
  | .guardRegionWrite j n _ => stackNo j && decide (n < 64)
  | .stackRetrain _ => true
  | .retrainComplete _ => true
  | .stackRetire _ => true
  | .relocationComplete _ => true
  | .computeReset _ => true
  | .benchReset _ => true
  | .domainReset _ => true
  | .fenceDrainTimeout d begun => domNo d && begun.all fun g => benchNo g.1 && ticketNo g.2.1
  | .resetStart d => domNo d
  | .resetComplete d _ fails r => domNo d && fails.all benchNo && bootOk r
  | .resetEscalation d hit => domNo d && hitOk hit
  | .benchSwap _ => true
  | .swapCopy => true
  | .swapAbandon _ => true
  | .testBench _ => true
  | .testComplete fails unit _ => decide (unit < 8) && decide (fails < 2 ^ 32)
  | .fwActivate _ => true
  | .fwFirstHeartbeat d => fwNo d
  | .fwActivateTimeout d hit => fwNo d && hitOk hit
  | .rest _ => true
  | .restExit _ _ fails => fails.all benchNo
  | .powerStateActive _ => true
  | .powerStateIdle _ => true
  | .powerStateNap _ => true
  | .powerStateDeep _ => true
  | .napWake => true
  | .deepWake r => bootOk r
  | .deepWakeTimeout rail => railNo rail
  | .wakePin => true
  | .setOp _ _ _ => true
  | .quiesce _ => true
  | .resume _ => true
  | .throttleStart _ _ => true
  | .throttleEnd _ _ => true
  | .pmbAlert rail _ => railNo rail
  | .overVoltage _ _ hit => hitOk hit
  | .overTemp sensor t hit => sensorNo sensor && tempOk t && hitOk hit
  | .supplyFault hit => hitOk hit
  | .xtalLoss => true
  | .pwrgdLoss => true
  | .porstAssert => true
  | .porstRelease _ r => bootOk r
  | .calibComplete fails => fails.all benchNo
  | .heartbeatWrite _ => true
  | .heartbeatTimeout hit => hitOk hit
  | .bcHeartbeatTimeout d hit => fwNo d && hitOk hit
  | .plumbLockstepMismatch hit => hitOk hit
  | .stateRequest page _ _ => pageNoOk page
  | .stateRequestTimeout page => pageNoOk page
  | .eventEmit => true
  | .evcCoalTimeout => true
  | .mgpFrameReceive f _ => frameOk f
  | .statusReq _ src => decide (src < 2 ^ 48)
  | .wake => true
  | .mgpTransmit _ => true
  | .verifyLoad _ _ => true
  | .patVerify _ _ => true
  | .arbAdvance _ => true
  | .attest _ => true
  | .identity _ => true
  | .progOwner _ => true
  | .revoke _ => true
  | .dbgUnlock _ _ => true
  | .xspiRead data _ => decide (data.length % 4096 = 0)
  | .xspiProgram _ => true
  | .xspiErase _ => true
  | .lowWordLatch a width => mgmtOk a width
  | .readToClear a width => mgmtOk a width
  | .registerWrite a width _ => mgmtOk a width
  | .overTempCleared sensor t => sensorNo sensor && tempOk t
  | .supplyRestored => true

end Sys2Proof
end

