-- ==== Sys2Proof/Certificates/Slice0/Obligations.lean ====
section
/-! DEFINITION. The statements about the model, by family of the command table. -/

open Sys2Proof Sys2Proof.Machine

/-! ### The machine as a whole -/

/-- Every step answers a next state: no command of the table ends a run, in any state. With no command waiting, the gauge advances by one tick
where it counts, and nothing else changes. The tick on an empty queue is the model's own choice (log entry 29). -/
def Obligations.StepsAnswerAndIdle : Prop :=
  (∀ s : State, ∃ t, step s = .next t) ∧
  (∀ s : State, s.pending = [] →
     ∃ t, step s = .next t ∧ t = { s with gauge := t.gauge } ∧
       t.gauge = (if s.chip = .off ∨ s.chip = .deep ∨ s.powerLost = true then s.gauge else s.gauge + 1))

/-- The reset state: PORST_N is held, so that the chip is OFF; no command waits; local memory lists nothing; every register reads as the
register table gives it; and both stores are in their canonical form. Where the spec gives a register no reset value, the value is the
model's choice (log entries 4 to 6). -/
def Obligations.ResetLeavesThePartOff : Prop :=
  State.reset.chip = .off ∧ State.reset.pending = [] ∧ State.reset.mem = [] ∧ (∀ a, rg State.reset a = regReset a) ∧
    (∀ a, memByte State.reset a = Config.unwritten 0 (memLoc State.reset a)) ∧ State.wf State.reset = true

/-- Every step keeps the canonical form of local memory and of the register file, from every state that has it. -/
def Obligations.StepKeepsTheCanonicalForm : Prop :=
  ∀ s t : State, State.wf s = true → step s = .next t → State.wf t = true

/-- A step takes one command and sends none; the counter of free values and the count of losses of memory never go down, so that no free value
is met twice and no lost byte comes back. These two counters are the model's own (log entries 1 and 2). -/
def Obligations.StepTakesOneCommand : Prop :=
  ∀ s t : State, step s = .next t → t.pending = s.pending.tail ∧ s.free ≤ t.free ∧ s.bootNo ≤ t.bootNo

/-! ### Issue (sections 6.2, 7.1 and 7.4) -/

/-- Where the sequencer finds no such word to issue, because the bench does not run, its stream is not in RUN, its window does not hold the
instruction or holds another word, an instruction of a bench does nothing, nor does it where the word there is another instruction's
(R139). A word whose resource no entry of the dovetail table
grants to its stream waits; nothing but the mark of the wait changes (R139, R143). A word that a rule of R164 forbids is suppressed with
ILLEGAL, and one that breaks a rule of Table 7-6 with the lowest of the causes it breaks (R173): it completes, its completion add takes
place (R166), its stream goes on, the prefetcher requests what the issue lets it (R137), and beside the trap nothing changes. A SHADOW whose mark meets an instruction that it may not mark
raises ILLEGAL at its own program counter, and that instruction runs unshadowed (R189). -/
def Obligations.WordsThatDoNotRunWaitOrTrap : Prop :=
  (∀ (b : Nat) (t : Stream) (w : IWord) (s : State) (p : Instr × ISpec), p ∈ benchInstrs b t w →
     reach s b t w = .no ∨ reach s b t w = .word ∧ otherOp p.2.opc w = true → exec p.1 s = .next s) ∧
  (∀ (b : Nat) (t : Stream) (w : IWord) (s : State) (p : Instr × ISpec) (f : Nat), p ∈ benchInstrs b t w →
     reach s b t w = .word → fieldsOk p.2.map p.2.opc t w = true → p.2.legal b w s = true → p.2.res = some f →
     granted (bench s b) t f = false →
     ∃ s', exec p.1 s = .next s' ∧ OnlyBench b ((bench s b).onStr t fun x => { x with stall := some .grant }) s s') ∧
  (∀ (b : Nat) (t : Stream) (w : IWord) (s : State) (p : Instr × ISpec) (c : Nat), b < 132 → p ∈ benchInstrs b t w →
     reach s b t w = .word → (str s b t).mark = none →
     (otherOp p.2.opc w = false ∧ (fieldsOk p.2.map p.2.opc t w = false ∨ p.2.legal b w s = false) ∧ c = xIllegal ∨
       Judged p.2 b t w s ∧ lowest (p.2.rules b t w s) = some c) →
     ∃ s', exec p.1 s = .next s' ∧ Acted b (xtrapRegs b) s s' ∧
       let cc := ccOf p.2.map t (str s b t).pc w
       bench s' b =
         Bench.fetched { (bench s b).past t with clampReq := (bench s b).clampReq ++ ccReq b s cc false } b t s ∧
       s'.gclampReq = s.gclampReq ++ ccReq b s cc true ∧
       rg s' (Rg.BENCH_XTRAP_COUNT b) = word (min 0xFFFFFFFF ((rg s (Rg.BENCH_XTRAP_COUNT b)).toNat + 1)) ∧
       s'.cause = (if inTest s b = false ∧ stepLive s = true then s.cause ||| 2 else s.cause) ∧
       (bit (rg s (Rg.BENCH_XTRAP_CAUSE b)) 31 = false →
         rg s' (Rg.BENCH_XTRAP_OP b) = w.opid ∧ rg s' (Rg.BENCH_XTRAP_PC b) = word (str s b t).pc ∧
         rg s' (Rg.BENCH_XTRAP_CAUSE b) = word (0x80000000 + strNo t * 0x1000000 + lbench s b * 256 + c)) ∧
       (bit (rg s (Rg.BENCH_XTRAP_CAUSE b)) 31 = true → RegsKept [Rg.BENCH_XTRAP_COUNT b] s s')) ∧
  (∀ (b : Nat) (t : Stream) (w : IWord) (s : State) (m : ShMark), b < 132 → Judged spNop b t w s → (str s b t).mark = some m →
     ∃ s', exec (.nop b t w) s = .next s' ∧ Acted b (xtrapRegs b) s s' ∧ NotCompleted b s s' ∧
       bench s' b = ((bench s b).past t).fetched b t s ∧
       rg s' (Rg.BENCH_XTRAP_COUNT b) = word (min 0xFFFFFFFF ((rg s (Rg.BENCH_XTRAP_COUNT b)).toNat + 1)) ∧
       (bit (rg s (Rg.BENCH_XTRAP_CAUSE b)) 31 = false → rg s' (Rg.BENCH_XTRAP_PC b) = word ((str s b t).pc - 1) ∧
         rg s' (Rg.BENCH_XTRAP_CAUSE b) = word (0x80000000 + strNo t * 0x1000000 + lbench s b * 256 + 1)))

/-! ### The step -/

/-- Every step takes the command at the front of the queue and runs it on the state that holds the queue's rest. -/
def Obligations.StepRunsFrontCommand : Prop :=
  ∀ (c : Instr) (rest : List Instr) (s : State), s.pending = c :: rest → step s = exec c { s with pending := rest }

/-! ### Control instructions (section 7.5) -/

/-- NOP moves its stream on and changes nothing else; here and below, the issue of an instruction lets the prefetcher request the blocks
that its window reaches (R137). LOOP pushes the body's start, its length and the count, or skips the body and its ENDL when the
count is 0; ENDL pops at the last pass and jumps back otherwise; neither changes anything else. SEAL puts its stream in DONE once nothing
of it is outstanding. HOLDPT changes nothing else unless the freeze is armed for its identifier; then its stream is HELD at it, the freeze
is in progress, and nothing but HOLD_FREEZE_STAT beside. TRAP completes, raises USER with its op ID, and moves its stream on (R173): the
first execution trap of the step is latched with its stream, logical bench and program counter, later ones are only counted; outside TEST
the token of a live step is void. -/
def Obligations.ControlInstructionsMoveTheirStream : Prop :=
  (∀ (b : Nat) (t : Stream) (w : IWord) (s : State),
     (Issues spNop b t w s → ∃ s', exec (.nop b t w) s = .next s' ∧
       OnlyBench b (((bench s b).past t).fetched b t s) s s') ∧
     (Issues spLoop b t w s → ∃ s', exec (.loop b t w) s = .next s' ∧
       let pc := (str s b t).pc
       let cnt := if w.ix then (str s b t).qb.toNat % 2 ^ 32 else w.opid.toNat
       OnlyBench b ((((bench s b).past t).onStr t fun x =>
         if cnt = 0 then { x with pc := pc + w.imm.toNat + 2 }
         else { x with loops := { start := pc + 1, cnt := cnt, len := w.imm.toNat } :: x.loops }).fetched b t s) s s') ∧
     (Issues spEndl b t w s → ∃ l rest s', (str s b t).loops = l :: rest ∧ exec (.endl b t w) s = .next s' ∧
       OnlyBench b ((((bench s b).past t).onStr t fun x =>
         if l.cnt = 1 then { x with loops := rest }
         else { x with loops := { l with cnt := l.cnt - 1 } :: rest, pc := l.start }).fetched b t s) s s')) ∧
  (∀ (b : Nat) (t : Stream) (w : IWord) (s : State),
     (Issues spSeal b t w s → ∃ s', exec (.seal b t w) s = .next s' ∧
       OnlyBench b ((((bench s b).past t).onStr t fun x => { x with state := .done }).fetched b t s) s s') ∧
     (Issues spHoldpt b t w s → ∃ s', exec (.holdpt b t w) s = .next s' ∧ MemKept s s' ∧
       (inTest s b = false ∧ freezeArmed s w.imm.toNat = true →
         s' = { s with benches := s'.benches, regs := s'.regs } ∧
         BenchIs b ((((bench s b).past t).onStr t fun x => { x with pc := (str s b t).pc, state := .held }).fetched b t s) s s' ∧
         RegsKept [Rg.HOLD_FREEZE_STAT] s s' ∧
         rg s' Rg.HOLD_FREEZE_STAT = rg s Rg.HOLD_FREEZE_STAT ||| 0x20000000) ∧
       (¬ (inTest s b = false ∧ freezeArmed s w.imm.toNat = true) →
         OnlyBench b (((bench s b).past t).fetched b t s) s s'))) ∧
  (∀ (b : Nat) (t : Stream) (w : IWord) (s : State), b < 132 → Issues spTrap b t w s →
     ∃ s', exec (.trapI b t w) s = .next s' ∧ Worked s s' ∧ MemKept s s' ∧
       BenchIs b (((bench s b).past t).fetched b t s) s s' ∧ RegsKept (xtrapRegs b) s s' ∧
       rg s' (Rg.BENCH_XTRAP_COUNT b) = word (min 0xFFFFFFFF ((rg s (Rg.BENCH_XTRAP_COUNT b)).toNat + 1)) ∧
       s'.cause = (if inTest s b = false ∧ stepLive s = true then s.cause ||| 2 else s.cause) ∧
       (bit (rg s (Rg.BENCH_XTRAP_CAUSE b)) 31 = true →
         s'.evq = s.evq ∧ RegsKept [Rg.BENCH_XTRAP_COUNT b] s s') ∧
       (bit (rg s (Rg.BENCH_XTRAP_CAUSE b)) 31 = false →
         rg s' (Rg.BENCH_XTRAP_OP b) = w.opid ∧ rg s' (Rg.BENCH_XTRAP_PC b) = word (str s b t).pc ∧
         rg s' (Rg.BENCH_XTRAP_CAUSE b) = word (0x80000000 + strNo t * 0x1000000 + lbench s b * 256 + 11) ∧
         (bit (rg s (Rg.EVENT_EN (Pg.BENCH b))) 5 = true → ∃ e, s'.evq = s.evq ++ [e] ∧
           e.page = Pg.BENCH b ∧ e.code = 0x548 ∧ e.w4 = w.opid.toNat ∧ e.w5 = (str s b t).pc % 2 ^ 32)))

/-- WAITG of a mark that has passed, as the benches see the gauge (8 gt late, R241), completes at once and is counted late; of a mark to
come, its stream waits at the WAITG. WAITG_RELEASE: the gauge reaches the mark and 8 gt more; every stream of the chip that waits for a
mark which has then passed leaves its WAITG, unless the benches are frozen, which a bench in TEST never is (R104), and every other stream
is as before. -/
def Obligations.WaitgWaitsUntilItsMark : Prop :=
  (∀ (b : Nat) (t : Stream) (w : IWord) (s : State), b < 132 → Issues spWaitg b t w s →
     let v := iwLow w + (if w.ix then (str s b t).qb else 0)
     ∃ s', exec (.waitg b t w) s = .next s' ∧ MemKept s s' ∧
       (v.toNat ≤ s.gauge.toNat - 8 → s' = { s with benches := s'.benches, regs := s'.regs } ∧
         BenchIs b (((bench s b).past t).fetched b t s) s s' ∧
         RegsKept [Rg.SEQ_WAITG_LATE b] s s' ∧
         rg s' (Rg.SEQ_WAITG_LATE b) = word (min 0xFFFFFFFF ((rg s (Rg.SEQ_WAITG_LATE b)).toNat + 1))) ∧
       (s.gauge.toNat - 8 < v.toNat → OnlyBench b ((((bench s b).past t).onStr t fun x =>
         { x with pc := (str s b t).pc, state := .wait, wait := some (.mark v) }).fetched b t s) s s')) ∧
  (∀ (g : DWord) (s : State), ∃ s', exec (.waitgRelease g) s = .next s' ∧
     s' = { s with benches := s'.benches, gauge := s'.gauge } ∧
     s'.gauge = BitVec.ofNat 64 (max s.gauge.toNat (min (g.toNat + 8) (2 ^ 64 - 1))) ∧
     ∀ (b : Nat) (t : Stream), StreamsOnly (bench s b) (bench s' b) ∧
       str s' b t = match (str s b t).wait with
         | some (.mark v) =>
           if b < 132 ∧ v.toNat ≤ s'.gauge.toNat - 8 ∧ (isFrozen s = false ∨ inTest s b = true) then (str s b t).left
           else str s b t
         | _ => str s b t)

/-! ### Clamps and queues (section 6.4) -/

/-- CLSET and CLADD put a request, which remembers its stream and program counter, with the clamp they name, and change nothing else but
their stream. CLWAIT of a threshold of 0 is satisfied
at once; of any other, its stream waits at it for the clamp, threshold and release that it names. -/
def Obligations.ClampInstructionsAskAndWait : Prop :=
  (∀ (b : Nat) (t : Stream) (w : IWord) (s : State),
     (Issues spClset b t w s → ∃ s', exec (.clset b t w) s = .next s' ∧
       let r : ClampReq := { n := w.cq.toNat, src := some t, v := w.imm.toNat, op := some (t, (str s b t).pc) }
       (w.g = true → BenchIs b (((bench s b).past t).fetched b t s) s s' ∧
         s' = { s with benches := s'.benches, gclampReq := s.gclampReq ++ [r] }) ∧
       (w.g = false → OnlyBench b
         (Bench.fetched { (bench s b).past t with clampReq := (bench s b).clampReq ++ [r] } b t s) s s')) ∧
     (Issues spCladd b t w s → ∃ s', exec (.cladd b t w) s = .next s' ∧
       let r : ClampReq := { n := w.cq.toNat, src := none, v := w.imm.toNat, op := some (t, (str s b t).pc) }
       (w.g = true → BenchIs b (((bench s b).past t).fetched b t s) s s' ∧
         s' = { s with benches := s'.benches, gclampReq := s.gclampReq ++ [r] }) ∧
       (w.g = false → OnlyBench b
         (Bench.fetched { (bench s b).past t with clampReq := (bench s b).clampReq ++ [r] } b t s) s s'))) ∧
  (∀ (b : Nat) (t : Stream) (w : IWord) (s : State), Issues spClwait b t w s →
     ∃ s', exec (.clwait b t w) s = .next s' ∧
       OnlyBench b ((if w.imm = 0 then (bench s b).past t else ((bench s b).past t).onStr t fun x =>
         { x with pc := (str s b t).pc, state := .wait,
                  wait := some (.clamp w.g w.cq.toNat w.imm.toNat (w.mod.getLsbD 0) w.opid) }).fetched b t s) s s')

/-- CLAMP_UPDATE of a local clamp follows the loop of R145: the last set in F, B, U order, then the adds, saturated at 0xFFFF with CLAMP_OVF,
latched for the instruction whose add first passes 0xFFFF (log entry 73), then the waiting streams in F, B, U order; every other clamp, stream and bench is as before. -/
def Obligations.LocalClampUpdateFollowsItsLoop : Prop :=
  ∀ (b n k : Nat) (s : State), b < 132 →
    let x := bench s b
    let q := takeReqs n k x.clampReq
    let sum := clampSum (spGet 0 n x.clamps).toNat q.1
    let r := clampServe (min sum 0xFFFF) (allStreams.map fun t => clampAsked false n (x.str t))
    ∃ s', exec (.clampUpdate false b n k) s = .next s' ∧ Worked s s' ∧ MemKept s s' ∧
      (∀ j, j ≠ b → bench s' j = bench s j) ∧
      bench s' b = { x with f := str s' b .f, b := str s' b .b, u := str s' b .u, clamps := (bench s' b).clamps,
                            clampReq := q.2 } ∧
      (∀ m, spGet 0 m (bench s' b).clamps = if m = n then BitVec.ofNat 16 r.1 else spGet 0 m x.clamps) ∧
      (∀ t, str s' b t = if r.2.getD (strNo t) false then (str s b t).left else str s b t) ∧
      RegsKept [Rg.SEQ_SYNC_FAULT b, Rg.SEQ_SYNC_PC b] s s' ∧
      (sum ≤ 0xFFFF → RegsKept [] s s' ∧ s'.cause = s.cause) ∧
      (0xFFFF < sum → bit (rg s' (Rg.SEQ_SYNC_FAULT b)) 31 = true ∧
        (bit (rg s (Rg.SEQ_SYNC_FAULT b)) 31 = false →
          rg s' (Rg.SEQ_SYNC_PC b) = word (ovfOp (clampSet (spGet 0 n x.clamps).toNat q.1) q.1).2))

/-- CLAMP_UPDATE of a global clamp: the same loop over the streams of the benches in service in logical order (R146). Where no bench serves
twice, its value, its requests and its streams are those of the loop, and an overflow is latched on the CLAMPNET page. -/
def Obligations.GlobalClampUpdateFollowsItsLoop : Prop :=
  ∀ (b n k : Nat) (s : State), n < 64 → s.benchMap.Nodup →
    let q := takeReqs n k s.gclampReq
    let sum := clampSum (spGet 0 n s.gclamps).toNat q.1
    let r := clampServe (min sum 0xFFFF) ((serviceStreams s).map fun p => clampAsked true n (str s p.1 p.2))
    ∃ s', exec (.clampUpdate true b n k) s = .next s' ∧ MemKept s s' ∧
      s' = { s with benches := s'.benches, regs := s'.regs, cause := s'.cause, gclamps := s'.gclamps, gclampReq := q.2 } ∧
      (∀ m, spGet 0 m s'.gclamps = if m = n then BitVec.ofNat 16 r.1 else spGet 0 m s.gclamps) ∧
      (∀ j, StreamsOnly (bench s j) (bench s' j)) ∧ (∀ j, j ∉ s.benchMap → bench s' j = bench s j) ∧
      (∀ (i : Nat) (p : Nat × Stream), (serviceStreams s)[i]? = some p →
        str s' p.1 p.2 = if r.2.getD i false then (str s p.1 p.2).left else str s p.1 p.2) ∧
      RegsKept [Rg.CLN_OVF] s s' ∧ (sum ≤ 0xFFFF → RegsKept [] s s' ∧ s'.cause = s.cause) ∧
      (0xFFFF < sum → bit (rg s' Rg.CLN_OVF) 31 = true)

/-- QPUSH appends to a queue of its own bench, or sends an entry on its way to a queue of another; QPOP moves the head of a queue of its bench
to the stream's QB; QUEUE_ENTRY_ARRIVE appends the oldest entry on its way. None changes anything else. A QPUSH whose target queue is
full, and a QPOP of an empty queue, stall: the stream waits at the instruction, the stall is counted, and nothing else changes (R147). -/
def Obligations.QueuesAreFirstInFirstOut : Prop :=
  ((∀ (b : Nat) (t : Stream) (w : IWord) (s : State), Issues spQpush b t w s →
     ∃ s', exec (.qpush b t w) s = .next s' ∧
       (w.mod.getLsbD 0 = false → OnlyBench b (Bench.fetched { (bench s b).past t with
         queues := spPut [] w.cq.toNat (spGet [] w.cq.toNat (bench s b).queues ++ [iwLow w]) (bench s b).queues } b t s) s s') ∧
       (w.mod.getLsbD 0 = true → ∃ k, physOf s (w.aux.toNat % 128) = some k ∧ k ≠ b ∧
         s' = { s with benches := s'.benches } ∧ bench s' b = ((bench s b).past t).fetched b t s ∧
         bench s' k = { bench s k with flights := (bench s k).flights ++ [{ q := w.cq.toNat, v := iwLow w }] } ∧
         ∀ j, j ≠ b → j ≠ k → bench s' j = bench s j)) ∧
   (∀ (b : Nat) (t : Stream) (w : IWord) (s : State), Issues spQpop b t w s →
     ∃ h rest s', spGet [] w.cq.toNat (bench s b).queues = h :: rest ∧ exec (.qpop b t w) s = .next s' ∧
       OnlyBench b ((Bench.onStr { (bench s b).past t with queues := spPut [] w.cq.toNat rest (bench s b).queues } t
         fun x => { x with qb := h }).fetched b t s) s s') ∧
   (∀ (b : Nat) (s : State) (f : QFlight) (rest : List QFlight), (bench s b).flights = f :: rest →
     ∃ s', exec (.queueEntryArrive b) s = .next s' ∧
       OnlyBench b { bench s b with
         flights := rest, queues := spPut [] f.q (spGet [] f.q (bench s b).queues ++ [f.v]) (bench s b).queues } s s')) ∧
  (∀ (b : Nat) (t : Stream) (w : IWord) (s : State), b < 132 →
     let stalled (s' : State) : Prop := s' = { s with benches := s'.benches, regs := s'.regs } ∧ MemKept s s' ∧
       BenchIs b ((bench s b).onStr t fun x => { x with state := .wait, wait := some (.queue w.cq.toNat), stall := none }) s s' ∧
       RegsKept [Rg.BENCH_ILK_QUEUE b] s s' ∧
       rg s' (Rg.BENCH_ILK_QUEUE b) = word (min 0xFFFFFFFF ((rg s (Rg.BENCH_ILK_QUEUE b)).toNat + 1))
     (∀ k, reach s b t w = .word → fieldsOk spQpush.map 0x13 t w = true → spQpush.legal b w s = true →
       pushTarget s b w = some k → 16 ≤ queueLoad (bench s k) w.cq.toNat →
       ∃ s', exec (.qpush b t w) s = .next s' ∧ stalled s') ∧
     (reach s b t w = .word → fieldsOk spQpop.map 0x14 t w = true → spGet [] w.cq.toNat (bench s b).queues = [] →
       ∃ s', exec (.qpop b t w) s = .next s' ∧ stalled s'))

/-! ### Array instructions (chapter 4, section 7.6) -/

/-- TILE adds its products to the accumulator that it names and to nothing else of the bench: the chain's mode, window and extent follow R88
and R90, its product count R59; without an armed injection every logical cell of the used rows and columns takes the sum of its K
products, and every other logical cell stays (R60, R98). -/
def Obligations.TileAddsItsProducts : Prop :=
  ∀ (b : Nat) (t : Stream) (w : IWord) (s : State), b < 132 → Issues spTile b t w s →
    let x := bench s b
    let da := readDesc x w.d.toNat (qbTray s b t w)
    let db := readDesc x (w.d.toNat + 1) (qbTray s b t w)
    let k := w.aux.toNat % 2 ^ 15 + 1
    let a := accOf x (accBit w)
    let win := (pairing da.fmt db.fmt).getD false
    let l : Int := if win then toSigned 10 w.mod.toNat else -32
    ∃ s' a', exec (.tile b t w) s = .next s' ∧
      Acted b (Rg.BENCH_TRY_INJ b :: ntrapRegs b ++ auditCounts b ++ trayUeRegs b) s s' ∧ Completed b t w s s' ∧
      bench s' b = (setAcc (accBit w) a' { x.past t with clampReq := (bench s' b).clampReq }).fetched b t s ∧
      a'.started = true ∧ a'.win = win ∧ a'.l = l ∧ a'.dot = false ∧ a'.n = min (2 ^ 32 - 1) (a.n + k) ∧
      a'.m = (if a.started then max a.m (da.lines + 1) else da.lines + 1) ∧
      a'.c = (if a.started then max a.c (db.lines + 1) else db.lines + 1) ∧
      (bit (rg s (Rg.BENCH_TRY_INJ b)) 31 = false →
        rg s' (Rg.BENCH_TRY_INJ b) = rg s (Rg.BENCH_TRY_INJ b) ∧
        ∀ i j, i < 128 → j < 96 →
          (cellOf a' i j).acc = (cellOf a i j).acc + (if i ≤ da.lines ∧ j ≤ db.lines then
            ((List.range k).map fun q => (termOf (dyMul ((tileOp x da 128).at' i q).1 ((tileOp x db 96).at' j q).1) l win
              (auditDepth s b w.opid)).t).sum
            else 0))

/-- TCLR clears the accumulator that it names, its cells and its chain (R61, R89, R177), and changes nothing else but its stream and its
completion add. TDRAIN does not complete yet. While an outfeed entry is free it reads its rows at once and frees the drain buses (R91): one
entry, not yet visible, with the chain's used rows and columns converted into its format (R71, R90, R107); otherwise it waits with the
drain buses, its op ID, rounding and draw number, which is counted (R91). The accumulators stay. TTAP opens the accumulator that it names to
its stream's plane instructions, in the mode and with the indices that it names, and leaves both accumulators and the outfeed (R94, R179);
it completes when its last beat is read, not before. -/
def Obligations.AccumulatorsAreClearedDrainedAndTapped : Prop :=
  (∀ (b : Nat) (t : Stream) (w : IWord) (s : State), Issues spTclr b t w s →
     ∃ s', exec (.tclr b t w) s = .next s' ∧ Completed b t w s s' ∧
       s' = { s with benches := s'.benches, gclampReq := s'.gclampReq } ∧
       BenchIs b ((setAcc (accBit w) {} { (bench s b).past t with clampReq := (bench s' b).clampReq }).fetched b t s) s s') ∧
  (∀ (b : Nat) (t : Stream) (w : IWord) (s : State), b < 132 → Issues spTdrain b t w s →
     let x := bench s b
     let d := readDesc x w.d.toNat (qbTray s b t w)
     let a := accOf x (accBit w)
     let dr := drawsOf (str s b t) (rndOf (w.mod.toNat % 4)) (w.aux.getLsbD 7) w.imm.toNat
     let cc := ccOf { ce := true } t (str s b t).pc w
     let reads := cellExpRanges d (chainM a) (chainC a)
     let busy : Drain := { stream := t, pc := (str s b t).pc, tdrain := true, accB := accBit w, info := infoOf d w.opid, saddr := d.saddr,
                           draws := dr, cc := cc, entries := [], count := 0, wit := 0, reads := reads }
     let e : OfEntry := { info := infoOf d w.opid, saddr := d.saddr, rows := chainM a, prod := false, suspect := (tryCheck a).bad,
                          visible := false,
                          data := colOrder (cellEls (numMode s) x a (infoOf d w.opid) d.saddr dr (chainM a) (chainC a)) (chainM a) (chainC a) }
     ∃ s', exec (.tdrain b t w) s = .next s' ∧
       Acted b (Rg.BENCH_ARR_DWAIT b :: drawRegs b ++ ntrapRegs b ++ auditCounts b ++ tryRegs b ++ trayUeRegs b) s s' ∧
       NotCompleted b s s' ∧
       (4 ≤ x.outfeed.length → bench s' b = Bench.fetched { x.pastDraw t (w.aux.getLsbD 7) with drain := some busy } b t s ∧
         rg s' (Rg.BENCH_ARR_DWAIT b) = word (min 0xFFFFFFFF ((rg s (Rg.BENCH_ARR_DWAIT b)).toNat + 1))) ∧
       (x.outfeed.length < 4 → tileNo (bench s' b) w.opid = tileNo x w.opid + 1 ∧
         bench s' b = Bench.fetched { x.pastDraw t (w.aux.getLsbD 7) with
           tiles := (bench s' b).tiles, outfeed := x.outfeed ++ [e],
           reading := x.reading ++ [{ last := true, str := t, reads := reads, opid := w.opid, fmt := d.fmt, count := chainM a * chainC a,
                                      wit := streamWitness d.fmt (entryStream e), cc := cc }] } b t s)) ∧
  (∀ (b : Nat) (t : Stream) (w : IWord) (s : State), b < 132 → Issues spTtap b t w s →
     let x := bench s b
     let d := readDesc x w.d.toNat (qbTray s b t w)
     ∃ s' p, exec (.ttap b t w) s = .next s' ∧
       ActedWit b (drawRegs b ++ ntrapRegs b ++ auditCounts b ++ tryRegs b ++ trayUeRegs b) s s' ∧ NotCompleted b s s' ∧
       bench s' b = Bench.fetched { x.pastDraw t (w.aux.getLsbD 7) with tap := some p, tiles := (bench s' b).tiles } b t s ∧
       tileNo (bench s' b) w.opid = tileNo x w.opid + 1 ∧
       p.stream = t ∧ p.pc = (str s b t).pc ∧ p.tile = tileNo x w.opid ∧ p.accB = accBit w ∧
       p.mode = tapModeOf (w.mod.toNat / 4) ∧ p.info = infoOf d w.opid ∧ p.reads = cellExpRanges d 128 96 ∧
       p.cc = ccOf { ce := true } t (str s b t).pc w ∧ p.suspect = (tryCheck (accOf x (accBit w))).bad ∧
       (p.mode = .raw → p.raw.length = 128 * 96 ∧ ∀ i j, i < 128 → j < 96 →
         p.raw[128 * j + i]? = some ((cellOf (accOf x (accBit w)) i j).acc, cellSt (accOf x (accBit w)) (cellOf (accOf x (accBit w)) i j),
           cellChn (accOf x (accBit w)) (cellOf (accOf x (accBit w)) i j))) ∧
       (p.mode ≠ .raw → p.data.length = 128 * 96))

/-- DRAIN_START: a TDRAIN that waited for a free outfeed entry reads its rows into one and frees the drain buses; a HADA PROD fills the free
entries with its next ones in order, and frees the buses once its last is placed (R91, R180). The entries already there, the accumulators
and the streams stay. OUTFEED_ENTRY_VISIBLE: the first hidden entry becomes visible; with the last entry of its instruction, the
instruction completes (R93, R168), and its one witness record is due in modes 2 and 3 (R41, R44). -/
def Obligations.OutfeedEntriesStartAndBecomeVisible : Prop :=
  ((∀ (b : Nat) (s : State) (d : Drain), b < 132 → (isFrozen s = false ∨ inTest s b = true) → (bench s b).drain = some d →
     (bench s b).outfeed.length < 4 → d.tdrain = true →
     let a := accOf (bench s b) d.accB
     ∃ (s' : State) (e : OfEntry) (k : EntryEnd), exec (.drainStart b) s = .next s' ∧
       Acted b (ntrapRegs b ++ auditCounts b ++ tryRegs b ++ trayUeRegs b) s s' ∧ NotCompleted b s s' ∧
       bench s' b = { bench s b with
         outfeed := (bench s b).outfeed ++ [e], tiles := (bench s' b).tiles, drain := none,
         reading := (bench s b).reading ++ [k] } ∧
       k = { last := true, str := d.stream, reads := d.reads, opid := d.info.opid, fmt := d.info.fmt,
             count := chainM a * chainC a, wit := streamWitness d.info.fmt (entryStream e), cc := d.cc } ∧
       tileNo (bench s' b) d.info.opid = tileNo (bench s b) d.info.opid + 1 ∧
       e.info = d.info ∧ e.prod = false ∧ e.visible = false ∧ e.suspect = (tryCheck a).bad ∧ e.rows = chainM a ∧
       e.data = colOrder (cellEls (numMode s) (bench s b) a d.info d.saddr d.draws (chainM a) (chainC a)) (chainM a) (chainC a)) ∧
   (∀ (b : Nat) (s : State) (d : Drain), (isFrozen s = false ∨ inTest s b = true) → (bench s b).drain = some d →
     d.tdrain = false → d.entries ≠ [] →
     let n := min (4 - (bench s b).outfeed.length) d.entries.length
     ∃ s', exec (.drainStart b) s = .next s' ∧
       OnlyBench b { bench s b with
         outfeed := (bench s b).outfeed ++ d.entries.take n,
         reading := (bench s b).reading ++ ((List.range n).map fun i =>
           { last := decide (i + 1 = d.entries.length), str := d.stream, reads := d.reads, opid := d.info.opid, fmt := d.info.fmt,
             count := d.count, wit := d.wit, cc := d.cc }),
         drain := if n = d.entries.length then none else some { d with entries := d.entries.drop n } } s s')) ∧
  (∀ (b : Nat) (s : State) (l r : List OfEntry) (e : OfEntry) (k : EntryEnd) (rest : List EntryEnd), b < 132 →
     (isFrozen s = false ∨ inTest s b = true) → (bench s b).reading = k :: rest →
     (bench s b).outfeed = l ++ e :: r → (∀ y, y ∈ l → y.visible = true) → e.visible = false →
     let shown : Bench := { bench s b with outfeed := l ++ { e with visible := true } :: r, reading := rest }
     ∃ s', exec (.outfeedEntryVisible b) s = .next s' ∧
       (k.last = false → OnlyBench b shown s s') ∧
       (k.last = true → ActedWit b [] s s' ∧
         bench s' b = { shown with clampReq := (bench s b).clampReq ++ ccReq b s k.cc false } ∧
         s'.gclampReq = s.gclampReq ++ ccReq b s k.cc true ∧
         (witMode s ≠ 2 → witMode s ≠ 3 → RegsKept [] s s' ∧ MemKept s s')))

/-- HADA DOT counts its products into columns 0 and 1 of the accumulator that it names, leaving every other column, the other accumulator and
the outfeed, and completes. HADA PROD makes one outfeed entry for each 12,288 elements, which take the free entries in order; while one
of them is not placed it holds the drain buses (R91, R180). It completes with the last of them, not before, and at once when it has no
element (R95, R180). A DOT with COUNT 0 starts its chain with m = 0: the model's choice (log entry 71). -/
def Obligations.HadaMultipliesElementWise : Prop :=
  ∀ (b : Nat) (t : Stream) (w : IWord) (s : State), b < 132 → Issues spHada b t w s →
    let x := bench s b
    let n := (readDesc x w.d.toNat (qbTray s b t w)).count
    let a := accOf x (accBit w)
    let cc := ccOf { ce := true } t (str s b t).pc w
    ∃ s', exec (.hada b t w) s = .next s' ∧
      ActedWit b (Rg.BENCH_TRY_INJ b :: Rg.BENCH_ARR_DWAIT b :: drawRegs b ++ ntrapRegs b ++ auditCounts b ++ trayUeRegs b) s s' ∧
      tileNo (bench s' b) w.opid = tileNo x w.opid + 1 ∧
      (w.mod.getLsbD 2 = true → MemKept s s' ∧ Completed b t w s s' ∧ ∃ a',
        bench s' b = (setAcc (accBit w) a' { x.pastDraw t (w.aux.getLsbD 7) with
          tiles := (bench s' b).tiles, clampReq := (bench s' b).clampReq }).fetched b t s ∧
        a'.started = true ∧ a'.m = (if a.started then max a.m (min n 128) else min n 128) ∧ a'.n = a.n ∧
        (∀ i j, i ≤ 128 → 2 ≤ j → j ≤ 96 → cellOf a' i j = cellOf a i j)) ∧
      (w.mod.getLsbD 2 = false → n = 0 → Completed b t w s s' ∧
        bench s' b = Bench.fetched { x.pastDraw t (w.aux.getLsbD 7) with
          tiles := (bench s' b).tiles, clampReq := (bench s' b).clampReq } b t s) ∧
      (w.mod.getLsbD 2 = false → n ≠ 0 → MemKept s s' ∧ NotCompleted b s s' ∧
        ∃ (es : List OfEntry) (d : Drain) (ends : List EntryEnd),
        let k := min (4 - x.outfeed.length) es.length
        bench s' b = Bench.fetched { x.pastDraw t (w.aux.getLsbD 7) with
          tiles := (bench s' b).tiles, outfeed := x.outfeed ++ es.take k, reading := x.reading ++ ends,
          drain := if k = es.length then none else some { d with entries := es.drop k } } b t s ∧
        es.length = (n + 12287) / 12288 ∧
        (∀ (i : Nat) (e : OfEntry), es[i]? = some e →
          e.prod = true ∧ e.visible = false ∧ e.rows = min 12288 (n - 12288 * i)) ∧
        d.tdrain = false ∧ d.stream = t ∧ d.pc = (str s b t).pc ∧ d.cc = cc ∧ d.count = n ∧ ends.length = k ∧
        (∀ (i : Nat) (e : EntryEnd), ends[i]? = some e →
          e.last = decide (i + 1 = es.length) ∧ e.str = t ∧ e.opid = w.opid ∧ e.count = n ∧ e.cc = cc))

/-! ### Plane instructions (chapter 5, section 7.7) -/

/-- The element-wise instructions write exactly their output positions, of the sources, formats and draws that they name, and change nothing
else of their bench but the stream, the entry or tap that they read, and their completion (R105 to R113, R120, R127, R129 to R131, R181).
VGRAIN KEY loads the seed, stream value and counter of its stream's grain context from the 16 bytes that it names, and changes nothing
else but its completion (R126, R181). -/
def Obligations.ElementWiseInstructionsWriteTheirOutput : Prop :=
  (∀ (b : Nat) (t : Stream) (w : IWord) (s : State), b < 132 →
     let src (uses : IWord → Bool × Bool × Bool) : PSrc := elemSrc uses b t w s
     let dr := plDraws s b t w
     let md := numMode s
     (Issues spVop b t w s → ∃ s', exec (.vop b t w) s = .next s' ∧
       ElemDone b t w (src vopUses) true (vopOuts md w (src vopUses) dr) s s') ∧
     (Issues spVfma b t w s → ∃ s', exec (.vfma b t w) s = .next s' ∧
       ElemDone b t w (src vfmaUses) false (vfmaOuts md w (src vfmaUses) dr) s s') ∧
     (Issues spVcvt b t w s → ∃ s', exec (.vcvt b t w) s = .next s' ∧
       ElemDone b t w (src uses0) false (vcvtOuts (bench s b) md w (src uses0) dr) s s') ∧
     (Issues spVtrf b t w s → ∃ s', exec (.vtrf b t w) s = .next s' ∧
       ElemDone b t w (src uses0) false (vtrfOuts md w (src uses0) dr) s s') ∧
     (Issues spVven b t w s → ∃ s', exec (.vven b t w) s = .next s' ∧
       ElemDone b t w (src uses0) true (vvenOuts md w (src uses0) dr) s s') ∧
     (Issues spVunv b t w s → ∃ s', exec (.vunv b t w) s = .next s' ∧
       ElemDone b t w (src uses0) false (vunvOuts md w (src uses0) dr) s s') ∧
     (Issues spVgrain b t w s → plFn w ≠ 7 → ∃ s', exec (.vgrain b t w) s = .next s' ∧
       ElemDone b t w (vgrainSources s b t w) false (vgrainOuts md w (vgrainSources s b t w) dr) s s')) ∧
  (∀ (b : Nat) (t : Stream) (w : IWord) (s : State), b < 132 → Issues spVgrain b t w s → plFn w = 7 →
     let bs := trayBytes (bench s b) (grainKeyDesc s b t w).addr 16
     ∃ s', exec (.vgrain b t w) s = .next s' ∧ Acted b (trayUeRegs b) s s' ∧ Completed b t w s s' ∧
       bench s' b = Bench.fetched { ((bench s b).past t).onStr t fun x => { x with
         seed := BitVec.ofNat 64 (leNat (bs.take 8)), strv := BitVec.ofNat 32 (leNat ((bs.drop 8).take 4)),
         cnt := BitVec.ofNat 16 (leNat ((bs.drop 12).take 2)), keyOk := true } with clampReq := (bench s' b).clampReq } b t s)

/-- The output of a plane instruction whose format has no blocks stays in the range that its descriptor names: every tray byte outside it is
as before, and so is everything of the bench but its tray (R57, R112, R171). What the plane writes is read back: where the positions of an
output are distinct, each that is processed holds its encoding, and each that is not keeps its old element (R57, R112). -/
def Obligations.PlaneOutputReadsBackAndStaysInItsRange : Prop :=
  (∀ (d : SDesc) (scales : Bool) (os : List POut) (n : Nat) (x : Bench), fmtBlock d.fmt = 0 → (∀ o, o ∈ os → o.p < n) →
     putOut d scales os x = { x with tray := (putOut d scales os x).tray, trayBad := (putOut d scales os x).trayBad } ∧
     ∀ a, (a < d.addr ∨ d.addr + elemBytes d.fmt n ≤ a) → trayByte (putOut d scales os x) a = trayByte x a) ∧
  (∀ (d : SDesc) (os : List POut) (x : Bench), 0 < fmtWidth d.fmt → (os.map (·.p)).Nodup →
     ∀ o, o ∈ os → trayEl (putOut d false os x) d.addr (fmtWidth d.fmt) o.p =
       if o.live then o.bits % 2 ^ fmtWidth d.fmt else trayEl x d.addr (fmtWidth d.fmt) o.p)

/-- VRED, VSCAN and VASCAN write their results, with the selected values or the root that they name, and change nothing else of their bench
but the stream, the entry or tap that they read, and their completion. The value of a group with no element present is a free value of its
operation, format and index (log entry 21). -/
def Obligations.ReductionsAndScansWriteTheirResults : Prop :=
  ∀ (b : Nat) (t : Stream) (w : IWord) (s : State), b < 132 →
    (Issues spVred b t w s → ∃ s', exec (.vred b t w) s = .next s' ∧
      let p := vredSrc b t w s
      ActedWit b (planeRegs b) s s' ∧
      PlaneDone b t w (p.i.kind == .entry) (p.i.kind == .tap) (vredPut (numMode s) w p (bench s b)) s s') ∧
    (Issues spVscan b t w s → ∃ s', exec (.vscan b t w) s = .next s' ∧
      let p := elemSrc vscanUses b t w s
      let c := readScb (bench s b) w.imm.toNat
      ActedWit b (planeRegs b) s s' ∧
      PlaneDone b t w p.usesEntry p.tapRead (scanPut w p c (vscanRes (numMode s) w p c) (bench s b)) s s') ∧
    (Issues spVascan b t w s → ∃ s', exec (.vascan b t w) s = .next s' ∧
      let p := elemSrc vascanUses b t w s
      let c := readScb (bench s b) w.imm.toNat
      ActedWit b (planeRegs b) s s' ∧
      PlaneDone b t w p.usesEntry p.tapRead (scanPut w p c (vascanRes (numMode s) w p c) (bench s b)) s s')

/-- WITNESS writes nothing of its bench but the entry or tap that it reads, its stream and its completion. While the ring is enabled it writes
one record with its op ID, or counts it as lost: where the ring is full, the write is refused, or it meets a parity error (R43, R184); while
the ring is not enabled, no register of it and no byte of memory changes. -/
def Obligations.WitnessRecordsItsInput : Prop :=
  ∀ (b : Nat) (t : Stream) (w : IWord) (s : State), b < 132 → Issues spWitness b t w s →
    let i := (redIn (bench s b) t w (qbTray s b t w)).1
    ∃ s', exec (.witness b t w) s = .next s' ∧ ActedWit b (planeRegs b) s s' ∧
      PlaneDone b t w (i.kind == .entry) (i.kind == .tap) (bench s b) s s' ∧
      (bit (rg s Rg.SEAL_WIT_CTRL) 8 = false → RegsKept (planeRegs b) s s' ∧ MemKept s s') ∧
      (bit (rg s Rg.SEAL_WIT_CTRL) 8 = true →
        let full := (rg s Rg.SEAL_WRING_WR - rg s Rg.SEAL_WRING_RD).toNat = 2 ^ bits (rg s Rg.SEAL_WIT_CTRL) 20 16
        ((full ∨ unitWriteOk s (witSlot s) 32 = false) → MemKept s s' ∧
          rg s' Rg.SEAL_WRING_WR = rg s Rg.SEAL_WRING_WR ∧
          rg s' Rg.SEAL_WIT_LOST = word (min 0xFFFFFFFF ((rg s Rg.SEAL_WIT_LOST).toNat + 1))) ∧
        (¬ full → unitWriteOk s (witSlot s) 32 = true → parHits s (witSlot s) 32 ≠ [] →
          rg s' Rg.SEAL_WRING_WR = rg s Rg.SEAL_WRING_WR ∧
          rg s' Rg.SEAL_WIT_LOST = word (min 0xFFFFFFFF ((rg s Rg.SEAL_WIT_LOST).toNat + 1))) ∧
        (¬ full → unitWriteOk s (witSlot s) 32 = true → parHits s (witSlot s) 32 = [] → rg s' Rg.SEAL_WRING_WR = rg s Rg.SEAL_WRING_WR + 1 ∧
          rg s' Rg.SEAL_WIT_LOST = rg s Rg.SEAL_WIT_LOST ∧
          ((∀ k, k < 32 → regionOf s (witSlot s + k) = none) → memBytes s' (witSlot s) 4 = leBytes 4 w.opid.toNat)))

/-- SHADOW marks the next instruction of its stream, and nothing else changes. A primary writes its output as it would unmarked and makes its
slot valid; a copy writes nothing to its tray, raises no numeric trap, counts on no audit channel, writes no record, and sends its witness
to its partner (R132, R189). -/
def Obligations.ShadowPairsWriteTheirWitnesses : Prop :=
  (∀ (b : Nat) (t : Stream) (w : IWord) (s : State), Issues spShadow b t w s →
    ∃ s', exec (.shadow b t w) s = .next s' ∧
      OnlyBench b ((((bench s b).past t).onStr t fun x => { x with
        mark := some { copy := w.mod.getLsbD 0, tag := w.aux.toNat % 256, partner := w.aux.toNat / 256 } }).fetched b t s) s s') ∧
  (∀ (b : Nat) (t : Stream) (w : IWord) (s : State) (p : Instr × ISpec) (m : ShMark), b < 132 → p ∈ planeInstrs b t w →
    Judged p.2 b t w s → lowest (p.2.rules b t w s) = none → p.2.shad w = true → (str s b t).mark = some m →
    (m.copy = false → ∃ s' y, exec p.1 s = .next s' ∧ spFind m.tag (bench s' b).own = some y ∧ y.partner = m.partner ∧
      y.opid = w.opid ∧ y.wit.isSome = true ∧ ∀ k, k ≠ m.tag → spFind k (bench s' b).own = spFind k (bench s b).own) ∧
    (∀ k, m.copy = true → plNext w = false → physOf s m.partner = some k → k ≠ b →
      ∃ s' wit, exec p.1 s = .next s' ∧ MemKept s s' ∧
        RegsKept (Rg.PLANE_STAT b :: Rg.PLANE_GRAIN_MISS b :: xtrapRegs b ++ trayUeRegs b) s s' ∧ (bench s' b).tray = (bench s b).tray ∧
        (bench s' b).trayBad = (bench s b).trayBad ∧ (bench s' b).own = (bench s b).own ∧
        bench s' k = { bench s k with theirs := spIns m.tag wit (bench s k).theirs } ∧
        ∀ j, j ≠ b → j ≠ k → bench s' j = bench s j))

/-! ### Movement and checking instructions (sections 7.8 and 7.9) -/

/-- DMAL, DMAS, DMAX and CHKCMP take the lowest free ticket for what they name, with a scoreboard entry over the tray range that a load
writes, and change nothing else; their data and their completion come with later commands (R185, R187, R190). TICKET_COMPLETE of a load
after its last byte ends its ticket with the status that it has, and changes nothing else but the trap that the status raises.
TICKET_TIMEOUT ends a local ticket, a CHKCMP's too, with TIMEOUT: its instruction completes with DMA_ERR, and where no granule operation had
begun nothing is moved (R226, R227). -/
def Obligations.LocalTicketsStartAndEnd : Prop :=
  (∀ (b : Nat) (t : Stream) (w : IWord) (s : State), b < 132 →
     let d := xferDesc s b t w
     (Issues spDmal b t w s → ∃ s', exec (.dmal b t w) s = .next s' ∧ Acted b (trayUeRegs b) s s' ∧ NotCompleted b s s' ∧
       TookTicket b t (newTicket b t w .dmal (some d) (some (xferSpan d)) .ok none s) s s') ∧
     (Issues spDmas b t w s → ∃ s', exec (.dmas b t w) s = .next s' ∧ Acted b (trayUeRegs b) s s' ∧ NotCompleted b s s' ∧
       TookTicket b t (newTicket b t w .dmas (some d) none .ok none s) s s') ∧
     (Issues spDmax b t w s → ∃ s', exec (.dmax b t w) s = .next s' ∧ Acted b (trayUeRegs b) s s' ∧ NotCompleted b s s' ∧
       TookTicket b t (newTicket b t w .dmax (some d) (some (xferSpan d)) .ok none s) s s') ∧
     (Issues spChkcmp b t w s → ∃ s', exec (.chkcmp b t w) s = .next s' ∧ Acted b [] s s' ∧ NotCompleted b s s' ∧
       TookTicket b t (newTicket b t w .chkcmp none none .ok none s) s s')) ∧
  (∀ (b n : Nat) (s : State) (k : Ticket), b < 132 → ticketOf (bench s b) n = some k →
     k.left = 0 → k.flow = none → (k.op = .dmal ∨ k.op = .dmax) →
     ∃ s', exec (.ticketComplete b n []) s = .next s' ∧ TicketEnded b k k.status s s' ∧ Acted b (xtrapRegs b) s s' ∧
       bench s' b = { bench s b with tickets := (bench s' b).tickets, clampReq := (bench s' b).clampReq } ∧
       (k.status = .ok → RegsKept [] s s' ∧ s'.cause = s.cause ∧ s'.evq = s.evq)) ∧
  (∀ (b n : Nat) (s : State) (k : Ticket), b < 132 → ticketOf (bench s b) n = some k → k.flow = none →
     ∃ s', exec (.ticketTimeout b n []) s = .next s' ∧ TicketEnded b k .timeout s s' ∧ Acted b (xtrapRegs b ++ jmcRegs) s s' ∧
       bench s' b = { bench s b with tickets := (bench s' b).tickets, clampReq := (bench s' b).clampReq } ∧
       (inTest s b = false → stepLive s = true → bit (BitVec.ofNat 32 s'.cause) 3 = true))

/-- RSEND, RREAD, GLUE and RCLAMP on a context that can send take a ticket and hand their operation to the context: RSEND and GLUE with the
rows and array that they read from the tray at issue (R185, R186, R293, R294). Nothing else changes but, for a tensor-writing one, its
witness record. On a context that has timed out, is not ACTIVE or names a lost peer, a remote operation completes at issue with TIMEOUT or
REMOTE, as on one whose link die is fenced (the model's choice, log entry 58): its ticket is free again, DMA_ERR is raised, nothing waits in the context, and LAST_ERR holds the status (R304). -/
def Obligations.RemoteOperationsGoToTheirContext : Prop :=
  (∀ (b : Nat) (t : Stream) (w : IWord) (s : State), b < 132 → ctxDead s (flowOf w) = none →
     let d := xferDesc s b t w
     let c := flowOf w
     let no := tktNo s b ((freeTicket (bench s b)).getD 0)
     let data := xferData (bench s b) d
     let scales := xferScaleData (bench s b) d
     (Issues spRsend b t w s → ∃ s', exec (.rsend b t w) s = .next s' ∧ ActedFlow b c (trayUeRegs b) s s' ∧ NotCompleted b s s' ∧
       TookTicket b t (newTicket b t w .rsend (some d) none .ok (some c) s) s s' ∧
       Queued c (xferOp s c .write w no d) no data scales none s s') ∧
     (Issues spGlue b t w s → ∃ s', exec (.glue b t w) s = .next s' ∧ ActedFlow b c (trayUeRegs b) s s' ∧ NotCompleted b s s' ∧
       TookTicket b t (newTicket b t w .glue (some d) none .ok (some c) s) s s' ∧
       Queued c (xferOp s c .glue w no d) no data scales none s s') ∧
     (Issues spRread b t w s → ∃ s', exec (.rread b t w) s = .next s' ∧ ActedFlow b c (trayUeRegs b) s s' ∧ MemKept s s' ∧
       NotCompleted b s s' ∧
       TookTicket b t (newTicket b t w .rread (some d) (some (xferSpan d)) .ok (some c) s) s s' ∧
       Queued c (xferOp s c .read w no d) no [] [] (some d) s s') ∧
     (Issues spRclamp b t w s → ∃ s', exec (.rclamp b t w) s = .next s' ∧ ActedFlow b c [] s s' ∧ MemKept s s' ∧
       NotCompleted b s s' ∧ TookTicket b t (newTicket b t w .rclamp none none .ok (some c) s) s s' ∧
       Queued c { opk := .clamp, tkt := no, opid := w.opid.toNat, clamp := w.opid.toNat } no [] [] none s s')) ∧
  (∀ (b : Nat) (t : Stream) (w : IWord) (s : State) (p : Instr × ISpec) (st : TktStatus), b < 132 →
     p ∈ [(Instr.rsend b t w, spRsend), (.rread b t w, spRread), (.glue b t w, spGlue), (.rclamp b t w, spRclamp)] →
     Issues p.2 b t w s → ctxDead s (flowOf w) = some st →
     ∃ s', exec p.1 s = .next s' ∧ (∀ c, flow s' c = flow s c) ∧ 
       bench s' b = Bench.fetched { (bench s b).past t with
         clampReq := (bench s b).clampReq ++ ccReq b s (ccOf { ce := true } t (str s b t).pc w) false } b t s ∧
       s'.gclampReq = s.gclampReq ++ ccReq b s (ccOf { ce := true } t (str s b t).pc w) true ∧ (∀ k, k ≠ b → bench s' k = bench s k) ∧
       ctxF s' (flowOf w) 7 31 28 = statusCode st ∧
       rg s' (Rg.BENCH_XTRAP_COUNT b) = word (min 0xFFFFFFFF ((rg s (Rg.BENCH_XTRAP_COUNT b)).toNat + 1)) ∧
       RegsKept (ctxReg (flowOf w) 7 :: ringRegs ++ parRegs ++ xtrapRegs b ++ trayUeRegs b ++ hdrRegs (flowPage (flowOf w))) s s' ∧
       MemKeptBut (witSlot s) 32 s s')

/-- DMA_LAST_BYTE writes the granules of a DMAL from memory, and those of a DMAX from its peer's tray, into the tray range that its descriptor
names, frees its scoreboard entry and leaves the ticket, with no granule operation outstanding, with its status; nothing else of its bench changes (R153, R185). -/
def Obligations.LastByteFillsTheTray : Prop :=
  ∀ (b n : Nat) (par : List (Nat × Nat)) (s : State) (k : Ticket) (d : TDesc), b < 132 →
    ticketOf (bench s b) n = some k → k.sb.isSome = true → k.td = some d →
    let done (src : Nat × Nat × Nat → List Byte) (st : TktStatus) (q : Nat) (s' : State) : Prop :=
      s' = { s with benches := s'.benches, regs := s'.regs, evq := s'.evq, cause := s'.cause, mem := s'.mem,
                    memBad := s'.memBad, parAt := s'.parAt } ∧
      RegsKept (ringRegs ++ jmcRegs ++ trayUeRegs q) s s' ∧ MemKeptBut (witSlot s) 32 s s' ∧
      (∀ j, j ≠ b → bench s' j = bench s j) ∧
      bench s' b = { bench s b with
        tray := ((xferPieces d).foldl (fun x p => trayPutAll p.2.1 (src p) x) (bench s b)).tray,
        trayBad := (bench s' b).trayBad, tickets := (bench s' b).tickets } ∧
      ticketOf (bench s' b) n = some { k with
        sb := none, left := 0, status := (k.status.worse st).worse (if par = [] then .ok else .parity) } ∧
      (∀ m, m ≠ n → ticketOf (bench s' b) m = ticketOf (bench s b) m)
    (k.op = .dmal → ∃ s', exec (.dmaLastByte b n par) s = .next s' ∧
      done (fun p => memBytes s p.1 p.2.2) (loadStatus s (xferPieces d)) b s') ∧
    (∀ q, k.op = .dmax → physOf s d.peer = some q → q ≠ b → q < 132 → ∃ s', exec (.dmaLastByte b n par) s = .next s' ∧
      done (fun p => trayBytes (bench s q) p.1 p.2.2)
        (if (xferPieces d).any fun p => rangeAny p.1 p.2.2 fun a => (bench s q).trayBad.contains (a / 4) then .ue else .ok) q s')

/-- TICKET_COMPLETE of a DMAS stores its granules: memory changes at the locations that its descriptor's rows and array name and nowhere else,
the record's place in the ring apart; where nothing guards the addresses, no stack of them is OFFLINE and its rows do not overlap,
each byte of its rows reads as the tray's; granules that the guard rules of Table 9-5 refuse, or that an OFFLINE stack holds, are not
stored. -/
def Obligations.StoresReachTheirAddresses : Prop :=
  ∀ (b n : Nat) (s : State) (k : Ticket) (d : TDesc), b < 132 → ticketOf (bench s b) n = some k →
    k.op = .dmas → k.sb = none → k.flow = none → k.td = some d → s.chip ≠ .rest →
    ∃ s', exec (.ticketComplete b n []) s = .next s' ∧
      TicketEnded b k (k.status.worse (storeStatus s b k.stream (xferPieces d))) s s' ∧ (∀ j, j ≠ b → bench s' j = bench s j) ∧
      (bench s' b).tray = (bench s b).tray ∧
      RegsKept (ringRegs ++ jmcRegs ++ trayUeRegs b ++ xtrapRegs b) s s' ∧
      (bit (rg s Rg.SEAL_WIT_CTRL) 8 = false →
        (∀ x, (∀ p, p ∈ xferPieces d → ∀ i, i < p.2.2 → memLoc s x ≠ memLoc s (p.1 + i)) → memByte s' x = memByte s x) ∧
        ((∀ p, p ∈ xferPieces d → storeOk s k.stream p.1 = false ∨ offline s p.1 = true) → MemKept s s') ∧
        ((∀ p, p ∈ xferPieces d → offline s p.1 = false ∧ ∀ i, i < p.2.2 → regionOf s (p.1 + i) = none) → xferScale d = 0 →
          (d.rows = 1 ∨ d.rowLen ≤ d.mstride) → ∀ r i, r < d.rows → i < d.rowLen →
          memByte s' (d.maddr + r * d.mstride + i) = trayByte (bench s b) (d.taddr + r * d.tstride + i)))

/-- SHADOW_COMPARE: once both witnesses of a tag are present, the oldest CHKCMP of the tag completes and both slots become invalid; a
difference raises SHADOW_MM, counts, makes the token void, and latches both witnesses when it is the first of the step (R132, R190). -/
def Obligations.ShadowCompareJudgesTheWitnesses : Prop :=
  ∀ (b tag : Nat) (s : State) (k : Ticket) (o : ShSlot) (p q : DWord), b < 132 →
    (bench s b).tickets.find? (fun y => y.op = .chkcmp ∧ y.tag = tag) = some k → spFind tag (bench s b).own = some o →
    o.wit = some p → spFind tag (bench s b).theirs = some q →
    ∃ s', exec (.shadowCompare b tag) s = .next s' ∧
      Acted b ([Rg.PLANE_SHD_COUNT b, Rg.PLANE_SHD_STAT b, Rg.PLANE_SHD_OP b, Rg.PLANE_SHD_WITP_LO b, Rg.PLANE_SHD_WITP_LO b + 4,
        Rg.PLANE_SHD_WITS_LO b, Rg.PLANE_SHD_WITS_LO b + 4] ++ hdrRegs (Pg.PLANE b) ++ xtrapRegs b) s s' ∧
      bench s' b = { bench s b with
        own := spDel tag (bench s b).own, theirs := spDel tag (bench s b).theirs,
        tickets := (bench s b).tickets.filter (·.n ≠ k.n), clampReq := (bench s b).clampReq ++ ccReq b s k.cc false } ∧
      s'.gclampReq = s.gclampReq ++ ccReq b s k.cc true ∧
      (p = q → RegsKept [] s s' ∧ s'.cause = s.cause ∧ s'.evq = s.evq) ∧
      (p ≠ q →
        rg s' (Rg.PLANE_SHD_COUNT b) = word (min 0xFFFFFFFF ((rg s (Rg.PLANE_SHD_COUNT b)).toNat + 1)) ∧
        rg s' (Rg.BENCH_XTRAP_COUNT b) = word (min 0xFFFFFFFF ((rg s (Rg.BENCH_XTRAP_COUNT b)).toNat + 1)) ∧
        (stepLive s = true → bit (BitVec.ofNat 32 s'.cause) 5 = true) ∧
        (bit (rg s (Rg.PLANE_SHD_STAT b)) 31 = false → rg64 s' (Rg.PLANE_SHD_WITP_LO b) = p ∧
          rg64 s' (Rg.PLANE_SHD_WITS_LO b) = q ∧ rg s' (Rg.PLANE_SHD_OP b) = o.opid))

/-! ### Sequencers, holds and freezes (chapters 5, 6 and 8) -/

/-- PREFETCH_BLOCK_ARRIVE: a block that the stream's prefetcher has requested takes the place of the one it displaces, with its 64 words as
memory holds them, or closed when its address is; every other stream and bench is as before (R137, R467), and so is everything where the
block has not been requested. STREAM_RUN: an ARMED stream whose first block
has arrived enters RUN; one whose setup reads failed raises their trap and enters FAULT (R205, R467). Nothing else changes. -/
def Obligations.WindowsFillAndArmedStreamsRun : Prop :=
  (∀ (b : Nat) (t : Stream) (blk : Nat) (par : List Nat) (s : State), b < 132 →
     let w := winBlocks s b t
     let a := base48 s (Rg.SEQ_PROGn_LO b (strNo t)) + 1024 * blk
     (blk ∉ (str s b t).reqs → exec (.prefetchBlockArrive b t blk par) s = .next s) ∧
     (blk ∈ (str s b t).reqs → ∃ s' k, exec (.prefetchBlockArrive b t blk par) s = .next s' ∧ Worked s s' ∧ MemKept s s' ∧
       RegsKept (jmcRegs ++ hdrRegs (Pg.TRAY b)) s s' ∧
       BenchIs b ((bench s b).onStr t fun x => { x with
         blocks := x.blocks.filter (fun j => j.num % w ≠ blk % w) ++ [k], reqs := x.reqs.filter (· ≠ blk) }) s s' ∧
       k.num = blk ∧ k.closed = setupClosed s a 1024 ∧
       (k.closed = false → k.words = (List.range 64).map (fun i => BitVec.ofNat 128 (leNat (memBytes s (a + 16 * i) 16))) ∧
         ∀ i, i < 64 → (i ∈ k.bad ↔ i ∈ par ∨ rangeAny (a + 16 * i) 16 (memUe s) = true)) ∧
       (k.closed = true → OnlyBench b (bench s' b) s s'))) ∧
  ((∀ (b : Nat) (t : Stream) (s : State), (str s b t).state = .armed → (str s b t).setup = none →
     (∃ k, k ∈ (str s b t).blocks ∧ k.num = 0) →
     ∃ s', exec (.streamRun b t) s = .next s' ∧ OnlyBench b ((bench s b).onStr t fun x => { x with state := .run }) s s') ∧
   (∀ (b : Nat) (t : Stream) (s : State) (c : Nat), b < 132 → (str s b t).state = .armed → (str s b t).setup = some c →
     ∃ s', exec (.streamRun b t) s = .next s' ∧ Worked s s' ∧ MemKept s s' ∧ RegsKept (xtrapRegs b) s s' ∧
       BenchIs b ((bench s b).onStr t fun x => { x with state := .fault }) s s' ∧
       rg s' (Rg.BENCH_XTRAP_COUNT b) = word (min 0xFFFFFFFF ((rg s (Rg.BENCH_XTRAP_COUNT b)).toNat + 1))))

/-- STREAM_START of STOPPED streams arms those of its mask at their first instruction, with the blocks of their windows requested (R137), and
STREAM_STOP stops those of its mask; every other
stream of the bench, every other bench and memory are as before (R205, R455). A write of SEQ_STREAM_CTL that a rule forbids is refused
with the lowest of its reasons, and starts and stops nothing (R377, R455). -/
def Obligations.StreamsStartAndStop : Prop :=
  ((∀ (b : Nat) (mask : BitVec 3) (parT : Bool) (parP : List Nat) (s : State), b < 132 → PageOpen (Pg.SEQ b) s →
     lowest (streamCtlBad b mask.toNat 0 s) = none →
     ∃ s', exec (.streamStart b mask parT parP) s = .next s' ∧ Worked s s' ∧ MemKept s s' ∧
       RegsKept (Rg.STATE (Pg.BENCH b) :: hdrRegs (Pg.BENCH b) ++ jmcRegs ++ latchRegs b ++ hdrRegs (Pg.TRAY b)) s s' ∧
       (∀ j, j ≠ b → bench s' j = bench s j) ∧
       ∀ t, str s' b t = if t ∈ maskStreams mask.toNat then { str s b t with
           state := .armed, pc := 0, loops := [], qb := if inTest s b then 0 else rg64 s Rg.HOLD_START_MARK_LO, wait := none,
           stall := none, mark := none, blocks := [], reqs := List.range (winBlocks s b t), setup := (str s' b t).setup }
         else str s b t) ∧
   (∀ (b : Nat) (mask : BitVec 3) (s : State), b < 132 → PageOpen (Pg.SEQ b) s →
     lowest (streamCtlBad b 0 mask.toNat s) = none →
     ∃ s', exec (.streamStop b mask) s = .next s' ∧ Worked s s' ∧ MemKept s s' ∧
       RegsKept (Rg.STATE (Pg.BENCH b) :: hdrRegs (Pg.BENCH b)) s s' ∧ (∀ j, j ≠ b → bench s' j = bench s j) ∧
       StreamsOnly (bench s b) (bench s' b) ∧
       ∀ t, str s' b t = if t ∈ maskStreams mask.toNat then
         { str s b t with state := .stopped, wait := none, stall := none, mark := none, reqs := [] } else str s b t)) ∧
  (∀ (b : Nat) (mask : BitVec 3) (parT : Bool) (parP : List Nat) (s : State) (r : Nat), b < 132 → PageOpen (Pg.SEQ b) s →
     lowest (streamCtlBad b mask.toNat 0 s) = some r →
     ∃ s', exec (.streamStart b mask parT parP) s = .next s' ∧ s' = { s with regs := s'.regs, evq := s'.evq } ∧ MemKept s s' ∧
       RegsKept (Rg.REFUSED (Pg.SEQ b) :: hdrRegs (Pg.SEQ b)) s s' ∧
       (bit (rg s (Rg.REFUSED (Pg.SEQ b))) 31 = false →
         rg s' (Rg.REFUSED (Pg.SEQ b)) = word (0x80000000 + r * 0x10000 + 0x040)))

/-- HOLD_DETECT: while no fence or rest freezes the benches, the first late item freezes them, counts the hold and records its bench and class; one more before the freeze joins
it. HOLD_RELEASE ends the wait once every late item has arrived. Neither changes anything else (R149, R151). HOLD_RESUME thaws the
benches, counts the frozen cycles, and releases the WAITGs whose marks passed meanwhile, unless the chip rests; nothing else changes (R149
to R151). HOLD_TIMEOUT abandons the late items and releases the hold: a late ticket ends with ABANDON and moves nothing that had not
begun, the stream that waited for the item enters FAULT with HOLD_TO at the program counter of the instruction that waited, and the token is void
(R158, R159); a late block is requested no more. -/
def Obligations.HoldsBeginAndEnd : Prop :=
  ((∀ (cls : Nat) (it : LateItem) (s : State) (l : Nat), logOf s (lateBench it) = some l → s.chip ≠ .rest →
     s.hold ≠ .releasing → (s.hold = .none → s.frozen = false) → lateBudgeted s cls it = true → lateArrived s it = false →
     it ∉ s.late →
     ∃ s', exec (.holdDetect cls it) s = .next s' ∧
       s' = { s with regs := s'.regs, hold := .frozen, frozen := s'.frozen, late := s.late ++ [it] } ∧ MemKept s s' ∧
       RegsKept [Rg.HOLD_COUNT, Rg.HOLD_LAST] s s' ∧
       (s.hold = .none → s'.frozen = true ∧
         rg s' Rg.HOLD_COUNT = word (min 0xFFFFFFFF ((rg s Rg.HOLD_COUNT).toNat + 1)) ∧
         rg s' Rg.HOLD_LAST = word (0x80000000 + l % 128 * 256 + cls % 16)) ∧
       (s.hold = .frozen → s'.frozen = s.frozen ∧ RegsKept [] s s')) ∧
   (∀ s : State, s.hold = .frozen → (∀ i, i ∈ s.late → lateArrived s i = true) →
     (∀ w, s.swap = some w → w.held = false) →
     exec .holdRelease s = .next { s with hold := .releasing, late := [] })) ∧
  (∀ (cyc : Nat) (s : State), s.hold = .releasing →
     ∃ s', exec (.holdResume cyc) s = .next s' ∧
       s' = { s with hold := .none, frozen := false, regs := s'.regs, benches := s'.benches } ∧ MemKept s s' ∧
       RegsKept [Rg.HOLD_CYC_LO, Rg.HOLD_CYC_HI] s s' ∧
       rg64 s' Rg.HOLD_CYC_LO = BitVec.ofNat 64 (min (2 ^ 48 - 1) ((rg64 s Rg.HOLD_CYC_LO).toNat + cyc)) ∧
       ∀ (b : Nat) (t : Stream), StreamsOnly (bench s b) (bench s' b) ∧
         str s' b t = match (str s b t).wait with
           | some (.mark v) => if s.chip ≠ .rest ∧ b < 132 ∧ v.toNat ≤ s.gauge.toNat - 8 then (str s b t).left else str s b t
           | _ => str s b t) ∧
  ((∀ (begun : List (Nat × Nat × List Nat)) (s : State), s.hold = .frozen → s.late ≠ [] →
     ∃ s', exec (.holdTimeout begun) s = .next s' ∧ s'.hold = .releasing ∧ s'.late = [] ∧ s'.frozen = s.frozen ∧
       s'.gauge = s.gauge ∧ s'.chip = s.chip ∧ s'.benchMap = s.benchMap) ∧
   (∀ (b blk : Nat) (t : Stream) (s : State), b < 132 → s.hold = .frozen → s.late = [.block b t blk] →
     lateArrived s (.block b t blk) = false →
     ∃ s' u, exec (.holdTimeout []) s = .next s' ∧
       SyncFaulted b 3 t false 0 (str s b t).pc (modStr b t (fun x => { x with reqs := x.reqs.filter (· ≠ blk) }) s) u ∧
       s' = { u with hold := .releasing, late := [] }) ∧
   (∀ (b n : Nat) (s : State) (k : Ticket), b < 132 → s.hold = .frozen → s.late = [.ticket b n] →
     ticketOf (bench s b) n = some k → lateArrived s (.ticket b n) = false →
     ∃ s', exec (.holdTimeout []) s = .next s' ∧ s'.hold = .releasing ∧ s'.late = [] ∧ TicketEnded b k .abandon s s' ∧
       MemKept s s' ∧ (bench s' b).tray = (bench s b).tray ∧ (str s' b k.stream).state = .fault ∧
       (bit (rg s (Rg.SEQ_SYNC_FAULT b)) 31 = false → rg s' (Rg.SEQ_SYNC_PC b) = word k.pc) ∧
       (∀ j, j ≠ b → bench s' j = bench s j)))

/-- UNIT_TIMEOUT and CLAMP_TIMEOUT: a wait that its bound ends puts its stream in FAULT with its own code (R157); frozen benches reach no
bound outside TEST. -/
def Obligations.BoundedWaitsFault : Prop :=
  (∀ (b : Nat) (t : Stream) (s : State) (q pc : Nat), b < 132 → unitWait s b t = some (q, pc) →
    (isFrozen s = false ∨ inTest s b = true →
      ∃ s', exec (.unitTimeout b t) s = .next s' ∧ SyncFaulted b 2 t false q pc s s') ∧
    (isFrozen s = true → inTest s b = false → exec (.unitTimeout b t) s = .next s)) ∧
  (∀ (b : Nat) (t : Stream) (s : State) (g : Bool) (n th : Nat) (rel : Bool) (opid : Word), b < 132 →
    (str s b t).state = .wait → (str s b t).wait = some (.clamp g n th rel opid) →
    (isFrozen s = false ∨ inTest s b = true → ∃ s', exec (.clampTimeout b t) s = .next s' ∧
      SyncFaulted b 1 t g n (str s b t).pc s s') ∧
    (isFrozen s = true → inTest s b = false → exec (.clampTimeout b t) s = .next s))

/-- FREEZE_ARM arms the freeze of a running step for its identifier and clears its status; FREEZE_DUMP, once every stream is HELD or DONE and
nothing is in progress, writes the image of the chip and its benches to memory (Table 6-5), sets DONE, disarms and reports; where all of it
could be written, the image checks; FREEZE_ABANDON lets the HELD streams go on and
sets FAIL (R155, R456). FREEZE_RESUME_CONTINUE after a dump lets the HELD streams go on at the resume mark. FREEZE_RESUME_LOAD of an image
that does not check is refused and marked; of one that checks, each logical bench in service takes its record from memory, with the blocks
of its streams' windows requested, and the chip its global clamps and witness sum (R156, R336). Where Table 6-5 gives an area and no
layout in it, the layout is the model's choice (log entry 25). -/
def Obligations.FreezesAreTakenAndResumed : Prop :=
  ((∀ (id : BitVec 16) (s : State), PageOpen Pg.HOLD s → s.stepSt = .run → bit (rg s Rg.HOLD_FREEZE_STAT) 29 = false →
     ∃ s', exec (.freezeArm id) s = .next s' ∧ s' = { s with regs := s'.regs } ∧ MemKept s s' ∧
       RegsKept [Rg.HOLD_FREEZE_CTL, Rg.HOLD_FREEZE_STAT] s s' ∧
       rg s' Rg.HOLD_FREEZE_CTL = word (0x80000000 + id.toNat) ∧ rg s' Rg.HOLD_FREEZE_STAT = 0) ∧
   (∀ s : State, bit (rg s Rg.HOLD_FREEZE_STAT) 29 = true → bit (rg s Rg.HOLD_FREEZE_CTL) 31 = true → quiescent s = true →
     let base := base48 s Rg.HOLD_FREEZE_BASE_LO
     let n := 0x10000 + s.benchMap.length * recordSize
     ∃ s', exec .freezeDump s = .next s' ∧
       s' = { s with regs := s'.regs, evq := s'.evq, mem := s'.mem, memBad := s'.memBad, cause := s'.cause } ∧
       MemKeptBut base n s s' ∧ bits (rg s' Rg.HOLD_FREEZE_STAT) 31 29 = 4 ∧ bit (rg s' Rg.HOLD_FREEZE_CTL) 31 = false ∧
       ((∀ b, b ∈ s.benchMap → (bench s b).trayBad = []) →
         RegsKept (Rg.HOLD_FREEZE_CTL :: Rg.HOLD_FREEZE_STAT :: hdrRegs Pg.HOLD) s s' ∧
         (s.memBad = [] → (∀ i, i < n → regionOf s (base + i) = none ∧ offline s (base + i) = false) → base + n ≤ memEnd s →
           imageOk s' = true))) ∧
   (∀ s : State, bit (rg s Rg.HOLD_FREEZE_CTL) 31 = true →
     ∃ s', exec .freezeAbandon s = .next s' ∧ MemKept s s' ∧
       s' = { s with benches := s'.benches, regs := s'.regs, evq := s'.evq } ∧
       RegsKept (Rg.HOLD_FREEZE_CTL :: Rg.HOLD_FREEZE_STAT :: hdrRegs Pg.HOLD) s s' ∧
       bits (rg s' Rg.HOLD_FREEZE_STAT) 31 29 = 2 ∧ bit (rg s' Rg.HOLD_FREEZE_CTL) 31 = false ∧
       ∀ (b : Nat) (t : Stream), StreamsOnly (bench s b) (bench s' b) ∧
         str s' b t = if b ∈ s.benchMap ∧ (str s b t).state = .held then (str s b t).left else str s b t)) ∧
  ((∀ s : State, PageOpen Pg.HOLD s → bit (rg s Rg.HOLD_FREEZE_STAT) 31 = true → bit (rg s Rg.HOLD_FREEZE_STAT) 29 = false →
     ∃ s', exec .freezeResumeContinue s = .next s' ∧ MemKept s s' ∧
       s' = { s with benches := s'.benches, regs := s'.regs, evq := s'.evq, gauge := s'.gauge } ∧
       (rg64 s Rg.HOLD_RESUME_MARK_LO).toNat ≤ s'.gauge.toNat ∧
       RegsKept (Rg.HOLD_FREEZE_CTL :: hdrRegs Pg.HOLD) s s' ∧
       ∀ (b : Nat) (t : Stream), StreamsOnly (bench s b) (bench s' b) ∧
         str s' b t = if b ∈ s.benchMap ∧ (str s b t).state = .held then (str s b t).left else str s b t) ∧
   (∀ s : State, PageOpen Pg.HOLD s → s.stepSt = .opened → bit (rg s Rg.HOLD_FREEZE_STAT) 29 = false →
     (∀ b t, b < 132 → (str s b t).state = .stopped ∨ inTest s b = true) →
     (imageOk s = false → ∃ s', exec .freezeResumeLoad s = .next s' ∧ s' = { s with regs := s'.regs, evq := s'.evq } ∧
       MemKept s s' ∧ bit (rg s' Rg.HOLD_FREEZE_STAT) 28 = true ∧
       RegsKept (Rg.HOLD_FREEZE_CTL :: Rg.HOLD_FREEZE_STAT :: Rg.REFUSED Pg.HOLD :: hdrRegs Pg.HOLD) s s') ∧
     (imageOk s = true → s.benchMap.Nodup → (∀ b, b ∈ s.benchMap → b < 132) →
       let base := base48 s Rg.HOLD_FREEZE_BASE_LO
       ∃ s', exec .freezeResumeLoad s = .next s' ∧ MemKept s s' ∧
       bits (rg s' Rg.HOLD_FREEZE_STAT) 29 28 = 2 ∧ bit (rg s' Rg.SEAL_STEP_STAT) 27 = true ∧
       s'.wsum = BitVec.ofNat 64 (leNat (memBytes s (base + 0x28) 8)) ∧
       (∀ n, n < 64 → spGet 0 n s'.gclamps = BitVec.ofNat 16 (leNat (memBytes s (base + 0x100 + 2 * n) 2))) ∧
       ∀ k b, physOf s k = some b →
         let r := benchOf (memBytes s (recordBase base k) recordSize)
         ∃ dt bad,
           let held (t : Stream) : StreamSt := { r.str t with
             reqs := (List.range (winBlocks s b t)).map ((r.str t).pc / 64 + ·),
             state := if bad ≠ none ∧ (r.str t).state = .held then .fault else (r.str t).state }
           bench s' b = { r with dt := dt, dtBad := bad, f := held .f, b := held .b, u := held .u })))

/-- TRY_INJECT arms a bit of an existing try or logical cell on a bench in TEST, and is refused outside TEST; TABLE_CHECK starts the check of
an IDLE bench or one in TEST, and TABLE_CHECK_DONE records its outcome in PLANE_TTAB_STAT and the bench's HEALTH, reporting a failure
(R103, R124). Neither changes anything else. LOCKSTEP_MISMATCH: the bench issues nothing more, its streams that run enter FAULT, the cycle
is latched, and outside TEST the bench is FENCED, the token void, and a chip in service with no spare left enters QUIESCE (R13, R104,
R136). -/
def Obligations.BenchesCheckThemselves : Prop :=
  ((∀ (b : Nat) (v : Word) (s : State), b < 132 → PageOpen (Pg.BENCH b) s →
     (bit v 31 = false ∨ inTest s b = true → bits v 30 23 ≤ 128 → bits v 22 16 ≤ 96 → bits v 14 8 ≤ 95 →
       ∃ s', exec (.tryInject b v) s = .next s' ∧ s' = { s with regs := s'.regs } ∧ MemKept s s' ∧
         RegsKept [Rg.BENCH_TRY_INJ b] s s' ∧ rg s' (Rg.BENCH_TRY_INJ b) = v &&& 0xFFFF7F01) ∧
     (bit v 31 = true → inTest s b = false →
       ∃ s', exec (.tryInject b v) s = .next s' ∧ s' = { s with regs := s'.regs, evq := s'.evq } ∧ MemKept s s' ∧
         RegsKept (Rg.REFUSED (Pg.BENCH b) :: hdrRegs (Pg.BENCH b)) s s')) ∧
   (∀ (b : Nat) (s : State), b < 132 → PageOpen (Pg.PLANE b) s →
     (blkState s (Pg.BENCH b) = 2 ∨ inTest s b = true →
       ∃ s', exec (.tableCheck b) s = .next s' ∧ s' = { s with regs := s'.regs, ttabBusy := s'.ttabBusy } ∧ MemKept s s' ∧
         RegsKept [Rg.PLANE_TTAB_STAT b] s s' ∧ b ∈ s'.ttabBusy ∧ bits (rg s' (Rg.PLANE_TTAB_STAT b)) 31 30 = 0) ∧
     (¬ (blkState s (Pg.BENCH b) = 2 ∨ inTest s b = true) →
       ∃ s', exec (.tableCheck b) s = .next s' ∧ s' = { s with regs := s'.regs, evq := s'.evq } ∧ MemKept s s' ∧
         RegsKept (Rg.REFUSED (Pg.PLANE b) :: hdrRegs (Pg.PLANE b)) s s')) ∧
   (∀ (b : Nat) (ok : Bool) (s : State), b < 132 → b ∈ s.ttabBusy →
     ∃ s', exec (.tableCheckDone b ok) s = .next s' ∧
       s' = { s with regs := s'.regs, evq := s'.evq, ttabBusy := s.ttabBusy.erase b } ∧ MemKept s s' ∧
       RegsKept (Rg.PLANE_TTAB_STAT b :: Rg.HEALTH (Pg.BENCH b) :: hdrRegs (Pg.PLANE b)) s s' ∧
       bits (rg s' (Rg.PLANE_TTAB_STAT b)) 31 30 = (if ok then 2 else 3) ∧ bit (rg s' (Rg.HEALTH (Pg.BENCH b))) 10 = ok ∧
       (ok = true → s'.evq = s.evq))) ∧
  (∀ (b cyc : Nat) (s : State), b < 132 → (bench s b).locked = false → (logOf s b).isSome = true ∨ inTest s b = true →
     ∃ s', exec (.lockstepMismatch b cyc) s = .next s' ∧ MemKept s s' ∧
       s' = { s with benches := s'.benches, regs := s'.regs, evq := s'.evq, cause := s'.cause, chip := s'.chip,
                     chipPrev := s'.chipPrev } ∧
       RegsKept ([Rg.SEQ_SYNC_FAULT b, Rg.SEQ_SYNC_PC b, Rg.SEQ_LOCK_STAT b, Rg.STATE (Pg.BENCH b)] ++ hdrRegs (Pg.BENCH b) ++
         hdrRegs (Pg.SEQ b) ++ hdrRegs Pg.CHIP) s s' ∧
       (∀ j, j ≠ b → bench s' j = bench s j) ∧ (bench s' b).locked = true ∧
       (bench s' b) = { bench s b with locked := true, f := str s' b .f, b := str s' b .b, u := str s' b .u } ∧
       (∀ t, str s' b t = if (str s b t).state = .stopped ∨ (str s b t).state = .done then str s b t
         else { str s b t with state := .fault, wait := none, stall := none }) ∧
       bit (rg s' (Rg.SEQ_LOCK_STAT b)) 31 = true ∧ bit (rg s' (Rg.SEQ_SYNC_FAULT b)) 31 = true ∧
       (inTest s b = false → blkState s' (Pg.BENCH b) = 4 ∧
         s'.cause = (if stepLive s = true then s.cause ||| 64 else s.cause) ∧
         ((s.chip = .ready ∨ s.chip = .run) → (∀ p, p < 132 → blkState s (Pg.BENCH p) ≠ 6) → s'.chip = .quiesce) ∧
         ((∃ p, p < 132 ∧ p ≠ b ∧ blkState s (Pg.BENCH p) = 6) → s'.chip = s.chip)) ∧
       (inTest s b = true → s'.chip = s.chip ∧ s'.cause = s.cause ∧ RegsKept ([Rg.SEQ_SYNC_FAULT b, Rg.SEQ_SYNC_PC b,
         Rg.SEQ_LOCK_STAT b] ++ hdrRegs (Pg.BENCH b) ++ hdrRegs (Pg.SEQ b)) s s'))

/-! ### The step and the seal (chapter 13, section 12.8) -/

/-- OPEN, where no rule of R322 refuses it, opens the step SEAL_STEP_NEXT names: the registers of the step and the accumulators are cleared,
every context but those of NOSTEP starts again in the step, with none of its flits in a retry or an intake buffer, the digests start
again, the chip is in RUN, and a deadline already past is missed. A bench in TEST keeps what it holds (R104). Nothing else changes (R250,
R292, R322). STEP_RUN takes an OPEN step into RUN at its start mark, or at its resume mark with its HELD streams let go; a
stream still STOPPED enters FAULT. STEP_DEADLINE latches and counts the first miss of a deadline (R250, R323). -/
def Obligations.StepsOpenRunAndMissDeadlines : Prop :=
  (∀ s : State, PageOpen Pg.SEALU s → lowest (openBad s) = none →
     let cs := validCtxs s
     let dl := rg64 s Rg.GAU_DL_LO
     let start := bits (rg s Rg.TST_PRESET_SEQ) 15 0
     ∃ s', exec .stepOpen s = .next s' ∧
       s' = { s with regs := s'.regs, stepNo := nextStep s, stepSt := .opened, cause := 0, wsum := 0, marks := [], childToks := [],
                     benches := s'.benches, flows := s'.flows, splines := s'.splines, evq := s'.evq, chip := .run,
                     chipPrev := if s.chip = .run then s.chipPrev else s.chip, telLost := s'.telLost,
                     intake := s'.intake, outDig := s'.outDig } ∧ MemKept s s' ∧
       (∀ b, bench s' b = if inTest s b = true then bench s b else { bench s b with tiles := [] }) ∧
       (∀ c, spGet {} c s'.outDig = if c ∈ cs then {} else spGet {} c s.outDig) ∧
       (spSorted s.intake = true → ∀ k, spGet [] k s'.intake = (spGet [] k s.intake).filter fun e => decide (e.1 ∉ cs) || ctxNoStep s e.1) ∧
       (∀ a, openClears s a = true → a ≠ Rg.GAU_DL_STAT → rg s' a = regReset a) ∧
       rg s' Rg.SEAL_OPEN_EPOCH = rg s (Rg.LKD_EPOCH 0) ∧
       rg s' Rg.GAU_DL_STAT = (if dl ≠ 0 ∧ dl ≤ s.gauge then word (0x80000000 + b2n s.frozen * 0x40000000) else 0) ∧
       (∀ a, openClears s a = false → a ≠ Rg.SEAL_OPEN_EPOCH → a ≠ Rg.GAU_DL_COUNT →
         (∀ c, c ∈ cs → ∀ k, 4 ≤ k → k < 8 → a ≠ ctxReg c k) → rg s' a = rg s a) ∧
       (∀ c, flow s' c = if c ∈ cs then (if ctxNoStep s c = true then { flow s c with digest := {} }
           else { flow s c with digest := {}, out := [], cumNew := false }) else flow s c) ∧
       (∀ x, spline s' x = { spline s x with
         rbuf := (spline s x).rbuf.filter fun f => !(decide (f.ctx ∈ cs) && !ctxNoStep s f.ctx) }) ∧
       ∀ c, c ∈ cs → ctxF s' c 7 15 0 = 0 ∧ (ctxNoStep s c = false → ctxState s' c = 1 ∧ ctxF s' c 5 15 0 = nextStep s % 2 ^ 16 ∧
         ctxF s' c 5 23 16 = 0 ∧ rg s' (ctxReg c 4) = word (start * 2 ^ 16 + start))) ∧
  ((∀ s : State, s.stepSt = .opened → (∀ b, b ∈ s.benchMap → b < 132) →
     let res := bit (rg s Rg.SEAL_STEP_STAT) 27
     let mark := rg64 s (if res then Rg.HOLD_RESUME_MARK_LO else Rg.HOLD_START_MARK_LO)
     ∃ s', exec .stepRun s = .next s' ∧ MemKept s s' ∧
       s' = { s with stepSt := .run, gauge := if s.gauge ≤ mark then mark else s.gauge, benches := s'.benches, regs := s'.regs,
                     evq := s'.evq, cause := s'.cause } ∧
       (∀ (b : Nat) (t : Stream), StreamsOnly (bench s b) (bench s' b) ∧
         str s' b t = if b ∈ s.benchMap ∧ (str s b t).state = .stopped then
             { str s b t with state := .fault, wait := none, stall := none }
           else if b ∈ s.benchMap ∧ res = true ∧ (str s b t).state = .held then (str s b t).left else str s b t) ∧
       RegsKept (Rg.HOLD_FREEZE_STAT :: s.benchMap.flatMap fun b => Rg.SEQ_SYNC_FAULT b :: Rg.SEQ_SYNC_PC b :: hdrRegs (Pg.SEQ b)) s s') ∧
   (∀ s : State, rg64 s Rg.GAU_DL_LO ≠ 0 → (s.stepSt = .opened ∨ s.stepSt = .run) → bit (rg s Rg.GAU_DL_STAT) 31 = false →
     let dl := rg64 s Rg.GAU_DL_LO
     ∃ s', exec .stepDeadline s = .next s' ∧ MemKept s s' ∧
       s' = { s with regs := s'.regs, evq := s'.evq, gauge := if s.gauge ≤ dl then dl else s.gauge } ∧
       RegsKept [Rg.GAU_DL_STAT, Rg.GAU_DL_COUNT] s s' ∧
       rg s' Rg.GAU_DL_STAT = word (0x80000000 + b2n s.frozen * 0x40000000) ∧
       rg s' Rg.GAU_DL_COUNT = word (min 0xFFFFFFFF ((rg s Rg.GAU_DL_COUNT).toNat + 1))))

/-- A child's token joins those of the step, or, as the last in CLOSE, finishes the member's token; STEP_CLOSE forms that token and finishes
it when no child's is missing; SEAL_CHILD_TIMEOUT finishes it without them, not clean; SEALED_TIMEOUT reports once that no decision came,
and nothing else (R311, R314, R325). A decision of the parent for the member's step is applied and passed to its children, and in the rest
state only recorded; RESOLVE_VOID and RESOLVE_COMMIT, where no rule of R330 refuses them, apply the decision that the cabinet gives (R313,
R330). -/
def Obligations.TokensAndDecisionsEndTheStep : Prop :=
  ((∀ (spl g : Nat) (f : Flit) (s u : State), f.typ = .seal → tokenKind (payload f) = 1 → ctxSealC s f.flow = true →
     Passes spl g f s u → stepLive s = true →
     let v := { u with childToks := s.childToks ++ [(f.flow, tokenOf (payload f))] }
     (s.stepSt ≠ .close ∨ childMissing v → exec (.sealTokenReceive spl) s = .next v) ∧
     (s.stepSt = .close → ¬ childMissing v → ∃ s', exec (.sealTokenReceive spl) s = .next s' ∧
       (State.wf v = true → Finished (combined v) v s'))) ∧
   (∀ s : State, closeReady s = true →
     (childMissing s → ∃ s', exec .stepClose s = .next s' ∧ MemKept s s' ∧
       s' = { s with stepSt := .close, regs := s'.regs, evq := s'.evq } ∧ RegsKept [Rg.GAU_DL_STAT] s s') ∧
     (¬ childMissing s → State.wf s = true → ∃ s' u, exec .stepClose s = .next s' ∧
       u = { s with stepSt := .close, regs := u.regs, evq := u.evq } ∧ RegsKept [Rg.GAU_DL_STAT] s u ∧ Finished (combined s) u s')) ∧
   (∀ s : State, s.stepSt = .close → childMissing s → State.wf s = true →
     let t := { combined s with clean := false, cause := (combined s).cause ||| 2 ^ 10 }
     ∃ s' u, exec .sealChildTimeout s = .next s' ∧ u = { s with regs := u.regs, evq := u.evq } ∧
       RegsKept (Rg.SEAL_STAT :: hdrRegs Pg.SEALU) s u ∧ bit (rg u Rg.SEAL_STAT) 28 = true ∧ Finished t u s') ∧
   (∀ s : State, s.stepSt = .sealed → bit (rg s Rg.SEAL_STAT) 30 = false → 0x323 ∉ s.marks →
     ∃ s', exec .sealedTimeout s = .next s' ∧ MemKept s s' ∧
       s' = { s with marks := setIns 0x323 s.marks, regs := s'.regs, evq := s'.evq } ∧ RegsKept (hdrRegs Pg.SEALU) s s' ∧
       rg s' (Rg.ERR_COUNT Pg.SEALU) = word (min 0xFFFFFFFF ((rg s (Rg.ERR_COUNT Pg.SEALU)).toNat + 1)))) ∧
  ((∀ (spl g : Nat) (f : Flit) (s u : State), f.typ = .seal → tokenKind (payload f) = 2 → parentCtx s = some f.flow →
     Passes spl g f s u → stepHeld s = true → State.wf u = true →
     let t := tokenOf (payload f)
     t.epoch = (rg s (Rg.LKD_EPOCH 0)).toNat → t.step = s.stepNo →
     (s.chip ≠ .rest → (t.clean = true → tablesAgree s = true) →
       ∃ s', exec (.sealDecisionReceive spl) s = .next s' ∧ Decided t (childCtxs s) u s') ∧
     (s.chip = .rest → ∃ s', exec (.sealDecisionReceive spl) s = .next s' ∧ DecRecorded t s' ∧
       s' = { u with regs := s'.regs, evq := s'.evq } ∧ bit (rg s' Rg.SEAL_STEP_STAT) 28 = true ∧ RegsKept decRegs u s')) ∧
   (∀ s : State, PageOpen Pg.SEALU s → lowest (resolveBad s) = none → State.wf s = true →
     let dests := (childCtxs s).filter fun c => ctxState s c = 1
     let t : Token := { clean := false, origin := memberId s, epoch := (rg s (Rg.LKD_EPOCH 0)).toNat, step := s.stepNo,
                        wsum := rg64 s Rg.SEAL_RES_WSUM_LO, count := 0, cause := 0, first := none }
     (∃ s', exec .resolveVoid s = .next s' ∧ Decided t dests s s') ∧
     (tablesAgree s = true → ∃ s', exec .resolveCommit s = .next s' ∧ Decided { t with clean := true } dests s s')))

/-! ### Flows and link slots (chapters 11 and 12) -/

/-- SLOT_TRANSMIT: while the gate is open the slot at `g` leaves a spline in UP with the content its cutting list entry asks for, at most five
flits, each with the boundary's short gauge, and the first report that is in time for it; its bytes, under the link key, go to the lanes
as their symbols; while a lane swap is announced it carries no flit (R264, R267, R275, R278, R282). A blocked slot leaves IDLE, puts the
spline in FAULT with cause TX_GATE and drives rest (R276). In training a slot of kind TRAIN leaves unencrypted (R265). SLOT_RECEIVE: an
accepted slot hands its flits on in order, grants its open credit, is reported, and its own report takes effect: an acknowledged flit is
released once every earlier flit of its flow is; a slot that does not check is counted and reported rejected (R278, R279). ACK_TIMEOUT of
a slot not yet reported makes the flits of the slot, and the later ones of their flow, wait for retransmission (R279, R280). -/
def Obligations.SlotsLeaveAndAreReceived : Prop :=
  ((∀ (x g : Nat) (fault : Bool) (s : State), x < 16 → isUp s x = true → s.replay = false → slotNew s x g = true →
     let s1 := gaugeTo (leaves s x g) s
     let e := entryAt s x g
     let r := slotContent x g (lead s x g) e s1
     let b2b := bit (rg s (Rg.SPL_CTL x)) 27
     let rep := (spline s x).reports.head?.filter fun r => intime s x g r.2.2
     (gateOpen s x = true → fault = false → contentOk x e r.2.1 = true →
       ∃ s', exec (.slotTransmit x g fault) s = .next s' ∧ MemKept s s' ∧
         s' = { s with gauge := s1.gauge, splines := s'.splines, flows := s'.flows, regs := s'.regs } ∧
         (∀ a, a ≠ Rg.SPL_RETRY x → (∀ c k, c < 4096 → 4 ≤ k → k < 7 → a ≠ ctxReg c k) → rg s' a = rg s a) ∧
         (∀ k, k ≠ x → spline s' k = spline s k) ∧
         (spline s' x).reports = (if rep.isSome then (spline s x).reports.drop 1 else (spline s x).reports) ∧
         ∃ l, (spline s' x).lastTx = some l ∧ l.g = g ∧ l.flits = r.2.1 ∧ l.flits.length ≤ 5 ∧ (∀ f, f ∈ l.flits → f.sg = g % 2 ^ 32) ∧
           l.ack = rep.map (fun r => (r.1, r.2.1)) ∧ l.swap = (spline s x).swap ∧ l.cred = (if b2b then 5 else 0) ∧
           l.kind = (match entKind e with
             | 0 => .idle
             | 1 => if (spline s x).needEcho = true then .idle else if restContent s = true then .withdrawn else .data
             | 2 => if (spline s x).needEcho = true ∨ restContent s = true then .idle else .data
             | _ => .data) ∧ (restContent s = true → entKind e ≠ 3 → l.flits = []) ∧
           ((spline s x).swap.isSome = true → l.flits = []) ∧
           (spline s' x).unrep = (spline s x).unrep ++ (if l.kind = .data ∨ b2b = false then [g] else []) ∧
           (spline s' x).wire = physLanes (laneMapAt s x g) (slotBytes (slotKey s x g false) l)) ∧
     (gateOpen s x = false ∨ fault = true ∨ contentOk x e r.2.1 = false →
       ∃ s', exec (.slotTransmit x g fault) s = .next s' ∧ linkState s' x = linkFault ∧ bits (rg s' (Rg.SPL_STAT x)) 28 24 = 5 ∧
         (∃ l, (spline s' x).lastTx = some l ∧ l.kind = .idle ∧ l.flits = []) ∧ bit (rg s' Rg.PLUMB_REST_PEND) 2 = true ∧
         ((s.chip = .ready ∨ s.chip = .run ∨ s.chip = .quiesce ∨ s.chip = .test) → s'.chip = .rest))) ∧
   (∀ (x g : Nat) (fault : Bool) (s : State), x < 16 → isTraining s x = true → s.replay = false → slotNew s x g = true →
     (spline s x).knockEnd ≤ g →
     ∃ s' l, exec (.slotTransmit x g fault) s = .next s' ∧ MemKept s s' ∧
       s' = { s with gauge := (gaugeTo g s).gauge, splines := s'.splines } ∧ (∀ k, k ≠ x → spline s' k = spline s k) ∧
       (spline s' x).lastTx = some l ∧ l.g = g ∧ l.kind = .train ∧
       l.flits = (if 64 ≤ (spline s x).rbuf.length then [] else
         (spline s x).echoRep.toList.map fun f => echoFlit s x g .echoRep f.pay) ∧
       (spline s' x).wire = physLanes (laneMapAt s x g) (slotBytes none l))) ∧
  ((∀ (x g delay : Nat) (lanes : List (List Nat)) (s : State), x < 16 → isUp s x = true → s.replay = false →
     let r := rxSlot s x g delay lanes
     r.preOk = true → r.flitsOk = true → r.tagOk = true →
     (s.chip = .run ∨ s.chip = .rest ∨ s.chip = .test) →
     let keep (f : Flit) : Bool := f.typ ≠ .other ∧ f.typ ≠ .echoRep ∧ (f.typ = .echoReq → bit (rg s (Rg.SPL_CTL x)) 27 = true)
     ∃ s', exec (.slotReceive x g delay lanes) s = .next s' ∧
       (spline s' x).rxq = (spline s x).rxq ++ (r.flits.filter keep).map (fun f => (g, f)) ∧
       (spline s' x).openCred = (spline s x).openCred + r.cred ∧
       (spline s' x).reports = (spline s x).reports ++ (if r.kind = .data then [(r.ref, true, r.arr + 80)] else []) ∧
       (∀ k, k ≠ x → spline s' k = spline s k) ∧
       (r.rep = none → MemKept s s' ∧
         s' = { s with gauge := (gaugeTo ((r.arr + 80) / 10) s).gauge, splines := s'.splines, regs := s'.regs } ∧
         RegsKept [Rg.SPL_RX_REJ x] s s' ∧ (spline s' x).rbuf = (spline s x).rbuf ∧ (spline s' x).unrep = (spline s x).unrep) ∧
       ∀ k, r.rep = some (k, true) →
         let l := (spline s x).rbuf.map fun q => if ackRef q.slot = k ∧ q.again = false then { q with acked := true } else q
         (spline s' x).rbuf = (l.filter fun q => !((l.takeWhile (· ≠ q)).all (fun p => p.ctx ≠ q.ctx || p.acked) && q.acked)) ∧
           (spline s' x).unrep = (spline s x).unrep.filter fun u => ackRef u ≠ k) ∧
   (∀ (x g delay : Nat) (lanes : List (List Nat)) (s : State), x < 16 → isUp s x = true → s.replay = false →
     let r := rxSlot s x g delay lanes
     r.preOk = false ∨ r.flitsOk = false →
     ∃ s', exec (.slotReceive x g delay lanes) s = .next s' ∧ MemKept s s' ∧
       s' = { s with gauge := (gaugeTo ((r.arr + 80) / 10) s).gauge, splines := s'.splines, regs := s'.regs } ∧
       RegsKept [Rg.SPL_RX_REJ x] s s' ∧
       rg s' (Rg.SPL_RX_REJ x) = word (min 0xFFFFFFFF ((rg s (Rg.SPL_RX_REJ x)).toNat + 1)) ∧
       (∀ k, k ≠ x → spline s' k = spline s k) ∧ spline s' x = { spline s x with
         reports := (spline s x).reports ++ if r.kind = .data ∧ r.preOk = true then [(r.ref, false, r.arr + 80)] else [] }) ∧
   (∀ (x g c : Nat) (s : State), x < 16 → c < 4096 → g ∈ (spline s x).unrep → (∀ r, r ∈ (spline s x).rbuf → r.ctx = c ∧ r.sends < 8) →
     let hit := (spline s x).rbuf.filter fun r => ackRef r.slot = ackRef g && !r.again && !r.acked
     ∃ s', exec (.ackTimeout x g) s = .next s' ∧ MemKept s s' ∧
       s' = { s with gauge := (gaugeTo (g + 256) s).gauge, splines := s'.splines, regs := s'.regs } ∧
       RegsKept [Rg.SPL_NACK x] s s' ∧ rg s' (Rg.SPL_NACK x) = word (min 0xFFFFFFFF ((rg s (Rg.SPL_NACK x)).toNat + 1)) ∧
       (∀ k, k ≠ x → spline s' k = spline s k) ∧
       spline s' x = { spline s x with
         unrep := (spline s x).unrep.filter fun u => ackRef u ≠ ackRef g,
         rbuf := match hit.head? with
           | none => (spline s x).rbuf
           | some q => (spline s x).rbuf.map fun r => if q.slot ≤ r.slot then r.nacked (10 * (g + 256)) else r }) ∧
   ∀ (x g : Nat) (s : State), g ∉ (spline s x).unrep → exec (.ackTimeout x g) s = .next s)

/-- OP_RECEIVE of an operation whose flit passes every check: a WRITE or GLUE awaits its data, a READ is answered with the data or the status
of what it may not read, a CLAMP is asked of its clamp and reported; under a fence each is answered with ERROR (R293 to R297, R315). `v`
is the state with the flit in its intake buffer and captured (R45, R301); then the `gone` oldest flits of that buffer leave it, and CUM_SEQ
of their unicast flows covers them (R297). -/
def Obligations.OperationsArePerformed : Prop :=
  (∀ (spl g : Nat) (f : Flit) (gone : Nat) (s u : State) (p : OpPay), f.typ = .op → s.chip ≠ .rest → Passes spl g f s u →
    f.mc = false → opOf (payload f) = some p →
    let c := f.flow
    let v := capture f (intakeIn f u)
    let y := flow v c
    let leave (t : State) : State := intakeOut (intakeKey f) gone t
    (computeFenced s = true → exec (.opReceive spl gone) s = .next (leave
      (setFlow c { y with txq := y.txq ++ [{ typ := .error, last := false, pay := errorBytes v, tkt := none }] } v))) ∧
    (computeFenced s = false → (p.opk = .write ∨ p.opk = .glue) → exec (.opReceive spl gone) s =
      .next (leave (setFlow c { y with rx := some { op := p, mc := false, got := [], status := .ok } } v))) ∧
    (computeFenced s = false → p.opk = .read → (readData v p).2 = .ok →
      let fl := payloads (readData v p).1.length (readData v p).1
      exec (.opReceive spl gone) s = .next (leave (setFlow c { y with txq := y.txq ++ (List.range fl.length).map fun i =>
        { typ := .resp, last := decide (i + 1 = fl.length), pay := fl.getD i [], tkt := none } } v))) ∧
    (computeFenced s = false → p.opk = .read → (readData v p).2 ≠ .ok →
      ∃ m, exec (.opReceive spl gone) s = .next (leave m) ∧ (flow m c).acks = y.acks ++ [(p.tkt, (readData v p).2)] ∧
        m = { v with flows := m.flows, regs := m.regs, evq := m.evq, cause := m.cause } ∧ MemKept v m ∧
        RegsKept jmcRegs v m) ∧
    (computeFenced s = false → p.opk = .clamp → ∃ m, exec (.opReceive spl gone) s = .next (leave m) ∧
      m = { v with flows := m.flows, gclampReq := m.gclampReq, benches := m.benches } ∧
      flow m c = { y with acks := y.acks ++ [(p.tkt, .ok)] } ∧ (∀ k, k ≠ c → flow m k = flow v k) ∧
      let q : ClampReq := { n := p.clamp / 2 ^ 24, src := none, v := p.clamp % 2 ^ 16 }
      (p.clamp / 2 ^ 23 % 2 = 1 → m.gclampReq = v.gclampReq ++ [{ q with n := q.n % 64 }] ∧ m.benches = v.benches) ∧
      (p.clamp / 2 ^ 23 % 2 = 0 → m.gclampReq = v.gclampReq ∧ ∀ b, bench m b =
        if physOf s (p.clamp / 2 ^ 16 % 128) = some b then { bench v b with clampReq := (bench v b).clampReq ++ [q] }
        else bench v b))) ∧
  ∀ (k n : Nat) (t : State),
    let r := intakeOut k n t
    let l := (spGet [] k t.intake).take n
    r = { t with intake := r.intake, flows := r.flows } ∧
    (∀ j, spGet [] j r.intake = if j = k then (spGet [] k t.intake).drop n else spGet [] j t.intake) ∧
    ∀ c, flow r c = match k % 2, (l.filter fun e => e.1 = c).getLast? with
      | 0, some e => { flow t c with cum := e.2, cumNew := true }
      | _, _ => flow t c

/-- DATA_RECEIVE writes the rows and the array of a WRITE as its data comes, and at LAST reports it and ends it; of a GLUE it keeps the data
until LAST; then the `gone` oldest flits of the intake buffer leave it. RESP_RECEIVE writes the tray of the reader, where the words of
`par` arrive with a parity error and are poisoned, and at LAST ends its ticket (R217, R294 to R297, R301). FACK_RECEIVE and CREDIT_RECEIVE
return the credits that CUM_SEQ covers, and a FACK ends the operations that its entries name, with their tickets; ERROR_RECEIVE and
FLOW_TIMEOUT end every operation of their context, which is PEER_FENCED or TIMED_OUT (R297, R301, R303, R316). -/
def Obligations.DataAndReportsReachTheirOperations : Prop :=
  ((∀ (spl g : Nat) (f : Flit) (gone : Nat) (s u : State) (x : RxOp), f.typ = .data → s.chip ≠ .rest → Passes spl g f s u →
     f.mc = false → (flow u f.flow).rx = some x → computeFenced s = false →
     let c := f.flow
     let v := capture f (intakeIn f u)
     let y := flow v c
     (x.op.opk = .write → ∃ m, exec (.dataReceive spl gone) s = .next (intakeOut (intakeKey f) gone m) ∧
       let r := writeData x.op x.got.length (payload f) v
       m = { v with flows := m.flows, mem := r.1.mem, memBad := r.1.memBad, parAt := r.1.parAt, regs := m.regs, evq := m.evq,
                    cause := m.cause } ∧
       RegsKept jmcRegs v m ∧
       (∀ a, (∀ k, k < x.op.rows → ∀ i, i < x.op.rowLen → memLoc v a ≠ memLoc v (x.op.addr + k * x.op.mstride + i)) →
         (∀ i, i < x.op.slen → memLoc v a ≠ memLoc v (x.op.saddr + i)) → memByte m a = memByte v a) ∧
       (∀ k, k ≠ c → flow m k = flow v k) ∧
       flow m c = if f.last then { y with rx := none, acks := y.acks ++ if x.mc then [] else [(x.op.tkt, x.status.worse r.2)] }
         else { y with rx := some { x with got := x.got ++ payload f, status := x.status.worse r.2 } }) ∧
     (x.op.opk ≠ .write → f.last = false → exec (.dataReceive spl gone) s = .next (intakeOut (intakeKey f) gone
       (setFlow c { y with rx := some { x with got := x.got ++ payload f, status := x.status.worse .ok } } v)))) ∧
   (∀ (spl g : Nat) (par : List (Nat × Nat)) (f : Flit) (s u : State) (op : TxOp) (d : TDesc) (b : Nat) (k : Ticket),
     f.typ = .resp → s.chip ≠ .rest →
     Passes spl g f s u → (flow u f.flow).ops.find? (·.read.isSome) = some op → op.read = some d →
     tktFind u op.tkt = some (b, k) →
     let c := f.flow
     let v := capture f u
     ∃ s', exec (.respReceive spl par) s = .next s' ∧
       (bench s' b).tray = (respData d op.got.length (payload f) (bench s b)).tray ∧ (∀ j, j ≠ b → bench s' j = bench s j) ∧
       (∀ p a, p ∈ par → respAddr d (op.got.length + p.2) = some a → a / 4 ∈ (bench s' b).trayBad) ∧
       (f.last = false → s' = { v with benches := s'.benches, flows := s'.flows, regs := s'.regs, evq := s'.evq } ∧
         RegsKept (ctxReg c 6 :: parRegs) v s' ∧ MemKept v s' ∧
         (bench s' b).tickets = ((bench s b).tickets.map fun q =>
           if q.n = k.n then { q with status := k.status.worse (if par = [] then .ok else .parity) } else q) ∧
         flow s' c = { flow v c with ops := (flow v c).ops.map fun o =>
           if o.tkt = op.tkt then { o with got := o.got ++ payload f } else o }) ∧
       (f.last = true → (flow s' c).ops = (flow v c).ops.filter (·.tkt ≠ op.tkt) ∧
         (bench s' b).tickets = (bench s b).tickets.filter (·.n ≠ k.n) ∧ MemKeptBut (witSlot s) 32 v s'))) ∧
  ((∀ (spl g : Nat) (f : Flit) (s u : State), s.chip ≠ .rest → Passes spl g f s u → (∀ b, b ∈ s.benchMap → b < 132) →
     let c := f.flow
     let cum := leNat ((payload f).drop 2 |>.take 2)
     let y := { flow s c with out := (flow s c).out.filter fun q => serCmp 16 q cum = .after || serCmp 16 q cum = .undecided }
     (f.typ = .credit → ∃ s', exec (.creditReceive spl) s = .next s' ∧ MemKept s s' ∧
       s' = { u with flows := s'.flows, regs := s'.regs } ∧ RegsKept [ctxReg c 5, ctxReg c 6] u s' ∧
       ctxF s' c 5 23 16 = y.out.length % 256 ∧ ∀ k, flow s' k = if k = c then y else flow s k) ∧
     (f.typ = .fack → ∃ s', exec (.fackReceive spl) s = .next s' ∧ s'.mem = s.mem ∧ s'.gauge = s.gauge ∧ s'.chip = s.chip ∧
       ctxF s' c 5 23 16 = y.out.length % 256 ∧
       (∀ k, flow s' k = if k = c then
           { y with ops := y.ops.filter fun o => o.tkt ∉ (ackEntries (payload f)).map (·.1) } else flow s k) ∧
       ∀ no st op b k, ackEntries (payload f) = [(no, st)] → y.ops.find? (·.tkt = no) = some op → tktFind s no = some (b, k) →
         (∀ j, j ≠ b → bench s' j = bench s j) ∧ (bench s' b).tickets = (bench s b).tickets.filter (·.n ≠ k.n) ∧
         (bench s' b).clampReq = (bench s b).clampReq ++ ccReq b s k.cc false ∧ s'.gclampReq = s.gclampReq ++ ccReq b s k.cc true)) ∧
   (∀ (spl g : Nat) (f : Flit) (s u : State), f.typ = .error → s.chip ≠ .rest → Passes spl g f s u →
     (∀ b, b ∈ s.benchMap → b < 132) →
     let c := f.flow
     ∃ s', exec (.errorReceive spl) s = .next s' ∧ s'.mem = s.mem ∧ s'.gauge = s.gauge ∧ s'.chip = s.chip ∧ ctxState s' c = 3 ∧
       ctxF s' c 6 15 0 = (if (flow s c).out = [] then 0 else ctxF s c 2 31 16) ∧
       (∀ k, flow s' k = if k = c then { flow s c with ops := [], txq := (flow s c).txq.filter (·.tkt.isNone) } else flow s k) ∧
       ∀ op b k, op ∈ (flow s c).ops → tktFind s op.tkt = some (b, k) → ticketOf (bench s' b) k.n = none) ∧
   (∀ (c : Nat) (s : State), c < 3072 → ctxValid s c = true → ctxState s c = 1 → ctxWaits s c = true →
     (∀ b, b ∈ s.benchMap → b < 132) →
     ∃ s', exec (.flowTimeout c) s = .next s' ∧ s'.mem = s.mem ∧ s'.gauge = s.gauge ∧ s'.chip = s.chip ∧ ctxState s' c = 2 ∧
       ctxF s' c 6 15 0 = 0 ∧
       (∀ k, flow s' k = if k = c then { flow s c with ops := [], out := [], txq := (flow s c).txq.filter (·.tkt.isNone) }
         else flow s k) ∧
       (∀ x, spline s' x = { spline s x with rbuf := (spline s x).rbuf.filter fun q => q.ctx ≠ c }) ∧
       (stepLive s = true → s'.cause.testBit 3 = true) ∧
       ∀ op b k, op ∈ (flow s c).ops → tktFind s op.tkt = some (b, k) → ticketOf (bench s' b) k.n = none))

/-- FLOW_CONTEXT_WRITE, where no rule of R463 refuses it, writes its word; a write that sets VALID starts the context in the current epoch,
one that clears it discards what the context holds. EPOCH_CHANGE takes the next epoch and member number, and every valid context starts
again in it (R289, R291). -/
def Obligations.ContextsStartAndChangeEpoch : Prop :=
  (∀ (c k : Nat) (v : Word) (s : State), c < 3072 → k < 8 → PageOpen (flowPage c) s → lowest (ctxBad c k v s) = none →
    ∃ s', exec (.flowContextWrite c k v) s = .next s' ∧ MemKept s s' ∧
      s' = { s with regs := s'.regs, flows := s'.flows, splines := s'.splines, intake := s'.intake } ∧
      (k ≠ 0 → s'.intake = s.intake) ∧ (∀ e l q, e ≠ c → (e, q) ∈ spGet [] l s.intake → spSorted s.intake = true →
        (e, q) ∈ spGet [] l s'.intake) ∧
      (k = 1 ∨ k = 2 → rg s' (ctxReg c k) = v ∧ RegsKept [ctxReg c k] s s' ∧ s'.flows = s.flows ∧ s'.splines = s.splines) ∧
      (k = 5 → ctxF s' c 5 31 24 = bits v 31 24 ∧ ctxF s' c 5 23 0 = ctxF s c 5 23 0 ∧ RegsKept [ctxReg c 5] s s' ∧
        s'.flows = s.flows ∧ s'.splines = s.splines) ∧
      (k = 3 ∨ k = 4 ∨ k = 6 ∨ k = 7 → s' = s) ∧
      (k = 0 → rg s' (ctxReg c 0) = v ∧ RegsKept ([0, 3, 4, 5, 6].map (ctxReg c)) s s' ∧
        (ctxValid s c = false → bit v 31 = true → flow s' c = {} ∧ rg s' (ctxReg c 3) = rg s (Rg.LKD_EPOCH 0) ∧
          (∀ l q, spSorted s.intake = true → (c, q) ∉ spGet [] l s'.intake) ∧ rg s' (ctxReg c 4) = 0 ∧ ctxState s' c = 1 ∧ ctxF s' c 5 23 16 = 0 ∧ s'.splines = s.splines) ∧
        (ctxValid s c = true → bit v 31 = false → flow s' c = {} ∧ ctxState s' c = 0 ∧
          ∀ x, spline s' x = { spline s x with rbuf := (spline s x).rbuf.filter fun q => q.ctx ≠ c }) ∧
        (ctxValid s c = bit v 31 → s'.flows = s.flows ∧ s'.splines = s.splines ∧ RegsKept [ctxReg c 0] s s'))) ∧
  (∀ (tag : BitVec 16) (s : State), CmdOpen [.ready, .quiesce, .rest, .test] s → stepHeld s = false →
    (s.chip = .test ∨ serCmp 32 (rg s (Rg.LKD_EPOCH 0)).toNat (rg s (Rg.LKD_EPOCH_NEXT 0)).toNat = .before) →
    let e := rg s (Rg.LKD_EPOCH_NEXT 0)
    ∃ s', exec (.epochChange tag) s = .next s' ∧ MemKept s s' ∧
      s' = { s with regs := s'.regs, flows := s'.flows, splines := s'.splines, evq := s'.evq, intake := s'.intake } ∧
      rg s' Rg.COMMAND_STATUS = cmdWord 0x08 tag 0 ∧
      (spSorted s.intake = true → ∀ l, spGet [] l s'.intake = (spGet [] l s.intake).filter fun q => q.1 ∉ validCtxs s) ∧
      (∀ d, d < 2 → rg s' (Rg.LKD_EPOCH d) = e ∧ bits (rg s' (Rg.LKD_MEMBER d)) 13 0 = bits (rg s (Rg.LKD_MEMBER 0)) 29 16) ∧
      (∀ c, c ∈ validCtxs s → rg s' (ctxReg c 3) = e ∧ rg s' (ctxReg c 4) = 0 ∧ ctxState s' c = 1 ∧ ctxF s' c 5 23 16 = 0) ∧
      (∀ c, flow s' c = if c ∈ validCtxs s then { flow s c with out := [], cumNew := false } else flow s c) ∧
      (∀ x, spline s' x = { spline s x with rbuf := [] }) ∧
      ∀ a, a ∉ [Rg.COMMAND_STATUS, Rg.LKD_EPOCH 0, Rg.LKD_EPOCH 1, Rg.LKD_MEMBER 0, Rg.LKD_MEMBER 1] →
        (∀ x, x ∉ s.splines.map (·.1) ∨ a ≠ Rg.SPL_DROP x) →
        (∀ c, c ∈ validCtxs s → ∀ k, 3 ≤ k → k < 7 → a ≠ ctxReg c k) → rg s' a = rg s a)

/-! ### Splines, cutting lists and the gauge (chapters 10 and 11) -/

/-- The echo: a request leaves in the FENCE slot in which it is due, or in training in a TRAIN slot (R252); its reply moves A by at most one
unit towards the delay measured, from the next frame boundary on, is counted as an excursion beyond 0.2 ns of A, and puts the spline in
FAULT beyond 1 ns or where the switch's gauge differs; no reply counts as an excursion, a late one as none, and the fourth excursion in a
row is a fault; a back-to-back spline answers a request with its arrival and its schedule identity (R251 to R254, R285). -/
def Obligations.EchoKeepsTheAdvance : Prop :=
  (∀ (x g ttx : Nat) (s : State), x < 16 → slotNew s x g = true → inSlot s x g ttx = true → (spline s x).rbuf.length < 64 →
    let req : Flit := { typ := .echoReq, epoch := (rg s (Rg.LKD_EPOCH (splDie x))).toNat, step := s.stepNo % 2 ^ 16, sg := g % 2 ^ 32,
                        pay := leBytes 2 x ++ List.replicate 254 0 }
    let ans := if 64 ≤ (spline s x).rbuf.length + 1 then [] else (spline s x).echoRep.toList.map fun f => echoFlit s x g .echoRep f.pay
    (isUp s x = true → gateOpen s x = true → echoDue s x g = true → (spline s x).swap = none →
      ∃ s' l, exec (.echoExchange x g ttx) s = .next s' ∧
        s' = { s with gauge := (gaugeTo (leaves s x g) s).gauge, splines := s'.splines } ∧ (∀ k, k ≠ x → spline s' k = spline s k) ∧
        (spline s' x).echoAt = some ttx ∧ (spline s' x).lastTx = some l ∧ l.g = g ∧ l.kind = .data ∧ l.flits = req :: ans ∧
        (spline s' x).rbuf.length = (spline s x).rbuf.length + l.flits.length ∧
        (spline s' x).wire = physLanes (laneMapAt s x g) (slotBytes (slotKey s x g false) l)) ∧
    (isTraining s x = true → (spline s x).echoAt = none → (spline s x).exch.length < 8 → (spline s x).knockEnd ≤ g →
      ∃ s' l, exec (.echoExchange x g ttx) s = .next s' ∧ LinkOnly s s' ∧ linkState s' x = linkEcho ∧
        RegsKept [Rg.SPL_STAT x, Rg.STATE (Pg.SPLINE x)] s s' ∧ (∀ k, k ≠ x → spline s' k = spline s k) ∧
        (spline s' x).echoAt = some ttx ∧ (spline s' x).lastTx = some l ∧ l.g = g ∧ l.kind = .train ∧ l.flits = req :: ans)) ∧
  (∀ (x t : Nat) (m : EchoMeas) (s : State), x < 16 → isUp s x = true → (spline s x).echoAt = some t → m.trx ≤ t + 40000 →
    (spline s x).needEcho = false ∨ word m.sched = rg s (Rg.CUT_ACT_ID x) →
    let d := echoDelay (echoAsym s x) t m.trx m.h
    let a := bits (rg s (Rg.SPL_ECHO_ADV x)) 12 0
    let n := bits (rg s (Rg.SPL_ECHO_STAT x)) 2 0
    let at' := gaugeTo (m.trx / 10) s
    let g := at'.gauge.toNat
    let diff := gaugeDiff at' t m.sg d
    let A := [Rg.SPL_SCHED x, Rg.SPL_PEER x, Rg.SPL_ECHO_LAST x, Rg.SPL_ECHO_STAT x, Rg.SPL_ECHO_ADV x, Rg.SPL_ECHO_EXC x]
    0 ≤ d → d ≤ 8191 →
    ((d - a).natAbs ≤ 2 → diff = false → ∃ s', exec (.echoReply x m) s = .next s' ∧ LinkOnly s s' ∧ RegsKept A s s' ∧
      SplineIs x { spline s x with
        echoAt := none, needEcho := false,
        advWas := if d = a then (spline s x).advWas else some (advAt s x g, (g / 4096 + 1) * 4096) } s s' ∧
      bits (rg s' (Rg.SPL_ECHO_STAT x)) 2 0 = 0 ∧
      bits (rg s' (Rg.SPL_ECHO_LAST x)) 31 30 = 0 ∧ bits (rg s' (Rg.SPL_ECHO_LAST x)) 12 0 = d.toNat ∧
      (bits (rg s' (Rg.SPL_ECHO_ADV x)) 12 0 : Int) = (if (a : Int) < d then (a : Int) + 1 else if d < a then (a : Int) - 1 else a) ∧
      rg s' (Rg.SPL_SCHED x) = word m.sched) ∧
    (2 < (d - a).natAbs → (d - a).natAbs ≤ 10 → diff = false → n < 3 → ∃ s', exec (.echoReply x m) s = .next s' ∧ LinkOnly s s' ∧
      RegsKept A s s' ∧ bits (rg s' (Rg.SPL_ECHO_STAT x)) 2 0 = n + 1 ∧ rg s' (Rg.SPL_ECHO_ADV x) = rg s (Rg.SPL_ECHO_ADV x) ∧
      rg s' (Rg.SPL_ECHO_EXC x) = word (min 0xFFFFFFFF ((rg s (Rg.SPL_ECHO_EXC x)).toNat + 1))) ∧
    (10 < (d - a).natAbs → ∃ s', exec (.echoReply x m) s = .next s' ∧ Faulted x 3 A s s' ∧
      bits (rg s' (Rg.SPL_ECHO_STAT x)) 31 28 = 9 ∧
      (bit (rg s (Rg.EVENT_EN (Pg.SPLINE x))) 4 = true → ∃ e, e ∈ s'.evq ∧ e.code = 0x408 ∧ e.w4 = 1)) ∧
    ((d - a).natAbs ≤ 10 → diff = true → ∃ s', exec (.echoReply x m) s = .next s' ∧ Faulted x 3 A s s' ∧
      bits (rg s' (Rg.SPL_ECHO_STAT x)) 31 28 = 12)) ∧
  (∀ (x t : Nat) (m : EchoMeas) (s : State), x < 16 → (spline s x).echoAt = some t →
    let n := bits (rg s (Rg.SPL_ECHO_STAT x)) 2 0
    let A := [Rg.SPL_ECHO_LAST x, Rg.SPL_ECHO_STAT x, Rg.SPL_ECHO_EXC x]
    (isUp s x = true → t + 40000 < m.trx → exec (.echoReply x m) s = exec (.echoNoReply x) s) ∧
    (isTraining s x = true → ∃ s', exec (.echoNoReply x) s = .next s' ∧
      s' = { s with gauge := (gaugeTo (t / 10 + 4000) s).gauge, splines := s'.splines } ∧
      SplineIs x { spline s x with echoAt := none } s s') ∧
    (isTraining s x = false → (spline s x).needEcho = false →
      (n < 3 → ∃ s', exec (.echoNoReply x) s = .next s' ∧ LinkOnly s s' ∧
        RegsKept A s s' ∧ SplineIs x { spline s x with echoAt := none } s s' ∧
        bits (rg s' (Rg.SPL_ECHO_LAST x)) 31 30 = 1 ∧ bits (rg s' (Rg.SPL_ECHO_STAT x)) 2 0 = n + 1) ∧
      (n = 3 → ∃ s', exec (.echoNoReply x) s = .next s' ∧ Faulted x 3 A s s' ∧ bits (rg s' (Rg.SPL_ECHO_STAT x)) 31 28 = 13)) ∧
    (isTraining s x = false → (spline s x).needEcho = true → ∃ s', exec (.echoNoReply x) s = .next s' ∧
      Faulted x 4 [Rg.SPL_ECHO_LAST x] s s')) ∧
  (∀ (x g : Nat) (f : Flit) (rest : List (Nat × Flit)) (s : State), (spline s x).rxq = (g, f) :: rest → f.typ = .echoReq →
    ∃ s' r, exec (.echoReqReceive x) s = .next s' ∧ s' = { s with splines := s'.splines, free := s.free + 1 } ∧
      SplineIs x { spline s x with rxq := rest, echoRep := some r } s s' ∧ r.typ = .echoRep ∧
      (r.pay.drop 4).take 8 = leBytes 4 (g % 2 ^ 32) ++ leBytes 4 (rg s (Rg.CUT_ACT_ID x)).toNat)

/-- TRAIN starts a spline's training, with a knock first where KNOCK_TX asks for it; TRAIN_COMPLETE, after its eight exchanges, brings it UP
with the advance measured and its lanes mapped anew, TRAIN_TIMEOUT ends a training in FAULT, and MUTE takes a spline in UP to MUTED (R252,
R262, R265, R277, R284). LANE_JUDGE records every lane's counts and, when a
logical lane is degraded, has the lowest one swapped for the spare, or the spline enters FAULT for want of one; LANE_SWAP_COMPLETE maps
that lane to the spare, and touches no other lane (R267). -/
def Obligations.SplinesTrainAndSwapLanes : Prop :=
  ((∀ (x : Nat) (s : State), x < 16 → PageOpen (Pg.SPLINE x) s →
     let v := rg s (Rg.SPL_CTL x) &&& 0x3C000000
     let A := [Rg.SPL_CTL x, Rg.SPL_STAT x, Rg.STATE (Pg.SPLINE x)]
     let kn := bit (rg s (Rg.SPL_CTL x)) 26
     (lowest (splCtlBad x (v ||| 1) s) = none → ∃ s', exec (.train x) s = .next s' ∧ LinkOnly s s' ∧
       RegsKept ([Rg.SPL_ECHO_ADV x, Rg.SPL_ECHO_STAT x, Rg.PLUMB_REST_PEND] ++ A) s s' ∧ linkState s' x = linkTrain ∧
       rg s' (Rg.SPL_ECHO_ADV x) = 0 ∧ rg s' (Rg.SPL_ECHO_STAT x) = 0 ∧
       SplineIs x { spline s x with
         reports := [], unrep := [], openCred := 0, needEcho := false, echoAt := none, exch := [], advWas := none, swap := none,
         echoRep := none, lastTx := none, wire := if kn then [knockSyms] else [],
         knockEnd := if kn then s.gauge.toNat + 200000 else 0 } s s') ∧
     (isUp s x = true → lowest (splCtlBad x (v ||| 2) s) = none → ∃ s', exec (.mute x) s = .next s' ∧ LinkOnly s s' ∧
       RegsKept A s s' ∧ linkState s' x = linkMuted ∧
       SplineIs x { spline s x with echoAt := none, swap := none, wire := [] } s s')) ∧
   (∀ (x t : Nat) (peer : Bool) (s : State), x < 16 → linkState s x = linkEcho → (spline s x).exch.length = 8 →
     (bit (rg s (Rg.SPL_CTL x)) 27 = true → peer = true) →
     let ds := (spline s x).exch.map fun m => echoDelay (echoAsym s x) m.ttx m.trx m.h
     let a := (median ds s).1
     0 ≤ a → a ≤ 8191 → rg s (Rg.SPL_SCHED x) = rg s (Rg.CUT_ACT_ID x) →
     ∃ s', exec (.trainComplete x t peer) s = .next s' ∧ LinkOnly s s' ∧ linkState s' x = linkUp ∧
       RegsKept [Rg.SPL_STAT x, Rg.STATE (Pg.SPLINE x), Rg.SPL_ECHO_ADV x, Rg.SPL_LANE_MAP x] s s' ∧
       rg s' (Rg.SPL_ECHO_ADV x) = word (0x80000000 + a.toNat) ∧ rg s' (Rg.SPL_LANE_MAP x) = 0x76543210 ∧
       bits (rg s' (Rg.SPL_STAT x)) 23 20 = 8 ∧
       SplineIs x (if pairReady (spline s x) = true then
         { spline s x with keys := (spline s x).newKeys.map (·.2), newKeys := [] } else spline s x) s s') ∧
   (∀ (x : Nat) (s : State), x < 16 → linkState s x = linkTrain ∨ linkState s x = linkEcho →
     ∃ s', exec (.trainTimeout x) s = .next s' ∧ Faulted x 1 [] s s')) ∧
  ((∀ (x : Nat) (ls : List (Nat × Nat × Bool)) (s : State), x < 16 → isUp s x = true → ls.length = 9 →
     let phy (j : Nat) : Nat := bits (rg s (Rg.SPL_LANE_MAP x)) (4 * j + 3) (4 * j)
     let bad (y : Nat) : Bool := laneBad s x (ls.getD y (0, 0, false))
     let sp := bits (rg s (Rg.SPL_STAT x)) 23 20
     let A := Rg.HEALTH (Pg.SPLINE x) :: Rg.SPL_STAT x ::
       (List.range 9).flatMap fun y => [Rg.SPL_FEC_CEy x y, Rg.SPL_FEC_UEy x y]
     ∃ s', exec (.laneJudge x ls) s = .next s' ∧ LinkOnly s s' ∧
       (∀ y, y < 9 → rg s' (Rg.SPL_FEC_CEy x y) = word (min 0xFFFFFFFF (ls.getD y (0, 0, false)).1) ∧
         rg s' (Rg.SPL_FEC_UEy x y) = word (min 0xFFFFFFFF ((rg s (Rg.SPL_FEC_UEy x y)).toNat + (ls.getD y (0, 0, false)).2.1))) ∧
       ((∀ j, j < 8 → bad (phy j) = false) → RegsKept A s s' ∧ s'.splines = s.splines ∧ linkState s' x = linkUp) ∧
       (∀ j, j < 8 → bad (phy j) = true → (∀ i, i < j → bad (phy i) = false) → (spline s x).swap = none →
         (sp ≠ 15 → bad sp = false → RegsKept A s s' ∧ linkState s' x = linkUp ∧
           SplineIs x { spline s x with swap := some (j, sp), swapAt := (s.gauge.toNat / 4096 + 2) * 4096 } s s') ∧
         (sp = 15 ∨ bad sp = true → linkState s' x = linkFault ∧ bits (rg s' (Rg.SPL_STAT x)) 28 24 = 2))) ∧
   (∀ (x j y : Nat) (s : State), x < 16 → j < 8 → y < 16 → isUp s x = true → (spline s x).swap = some (j, y) →
     ∃ s', exec (.laneSwapComplete x) s = .next s' ∧ LinkOnly s s' ∧ s'.gauge = (gaugeTo (spline s x).swapAt s).gauge ∧
       RegsKept [Rg.SPL_LANE_MAP x, Rg.SPL_STAT x, Rg.SPL_SWAP x] s s' ∧ SplineIs x { spline s x with swap := none } s s' ∧
       linkState s' x = linkUp ∧ bits (rg s' (Rg.SPL_STAT x)) 23 20 = 15 ∧
       ∀ i, i < 8 → bits (rg s' (Rg.SPL_LANE_MAP x)) (4 * i + 3) (4 * i) =
         if i = j then y else bits (rg s (Rg.SPL_LANE_MAP x)) (4 * i + 3) (4 * i)))

/-- LOAD takes an image that checks as the pending list, or refuses it with its code; ARM and DISARM arm it; CUTLIST_ACTIVATE makes it the
active one at its mark and drops what was sent and not acknowledged; KEY_ARM and KEY_CHANGE do so for a complete new key pair (R273, R274,
R283, R464). -/
def Obligations.ListsAndKeysChangeAtTheirMarks : Prop :=
  (∀ (x : Nat) (s : State), x < 16 → PageOpen (Pg.CUTLIST x) s →
    let a := base48 s (Rg.CUT_IMG_LO x)
    let img := memBytes s a imageSize
    (a + imageSize ≤ memEnd s → rangeAny a imageSize (memUe s) = false →
      (imageBad x false img = none → ∃ s', exec (.load x) s = .next s' ∧ LinkOnly s s' ∧
        RegsKept [Rg.CUT_STAT x, Rg.CUT_PEND_ID x] s s' ∧ bit (rg s' (Rg.CUT_STAT x)) 30 = true ∧
        SplineIs x { spline s x with pend := some { id := leNat ((img.drop 2048).take 4), ents := (chunks 4 512 img).map word } } s s') ∧
      (∀ c k, imageBad x false img = some (c, k) → ∃ s', exec (.load x) s = .next s' ∧ LinkOnly s s' ∧ s'.splines = s.splines ∧
        RegsKept [Rg.CUT_STAT x, Rg.REFUSED (Pg.CUTLIST x)] s s' ∧ bits (rg s' (Rg.CUT_STAT x)) 28 24 = c ∧
        bits (rg s' (Rg.CUT_STAT x)) 8 0 = k)) ∧
    (bit (rg s (Rg.CUT_STAT x)) 30 = true → markAhead s (Rg.CUT_MARK_LO x) = true → ∃ s', exec (.arm x) s = .next s' ∧
      s' = { s with regs := s'.regs } ∧ MemKept s s' ∧ RegsKept [Rg.CUT_STAT x] s s' ∧ bit (rg s' (Rg.CUT_STAT x)) 29 = true) ∧
    (bit (rg s (Rg.CUT_STAT x)) 29 = false ∨ s.gauge < rg64 s (Rg.CUT_MARK_LO x) → ∃ s', exec (.disarm x) s = .next s' ∧
      s' = { s with regs := s'.regs } ∧ MemKept s s' ∧ RegsKept [Rg.CUT_STAT x] s s' ∧ bit (rg s' (Rg.CUT_STAT x)) 29 = false)) ∧
  (∀ (x : Nat) (l : CutList) (s : State), x < 16 → bit (rg s (Rg.CUT_STAT x)) 29 = true → (spline s x).pend = some l →
    ∃ s', exec (.cutlistActivate x) s = .next s' ∧ MemKept s s' ∧
      s' = { s with splines := s'.splines, regs := s'.regs, gauge := s'.gauge, evq := s'.evq,
                    cause := if stepLive s = true then s.cause ||| 2 ^ 11 else s.cause } ∧
      SplineIs x { spline s x with active := some l, pend := none, rbuf := [], needEcho := isUp s x, echoAt := none } s s' ∧
      RegsKept [Rg.CUT_STAT x, Rg.CUT_ACT_ID x, Rg.CUT_PEND_ID x, Rg.SPL_DROP x] s s' ∧
      rg s' (Rg.CUT_ACT_ID x) = word l.id ∧ bits (rg s' (Rg.CUT_STAT x)) 31 29 = 4) ∧
  (∀ (x : Nat) (s : State), x < 16 →
    (PageOpen (Pg.SPLINE x) s → markAhead s (Rg.SPL_KEY_MARK_LO x) = true → ∃ s', exec (.keyArm x) s = .next s' ∧
      s' = { s with regs := s'.regs } ∧ MemKept s s' ∧ RegsKept [Rg.SPL_KEY_CTL x] s s' ∧
      bit (rg s' (Rg.SPL_KEY_CTL x)) 31 = true) ∧
    (bit (rg s (Rg.SPL_KEY_CTL x)) 31 = true → isUp s x = true → pairReady (spline s x) = true →
      ∃ s', exec (.keyChange x) s = .next s' ∧ LinkOnly s s' ∧ RegsKept [Rg.SPL_KEY_CTL x] s s' ∧
        bit (rg s' (Rg.SPL_KEY_CTL x)) 31 = false ∧
        SplineIs x { spline s x with keys := (spline s x).newKeys.map (·.2), newKeys := [] } s s'))

/-- The gauge: a load arms it and the next GMARK edge loads it into LOCKED; an edge in LOCKED is measured, and its offset trimmed away by
0.1 ns at each frame boundary; one more than 1.5 gt off, the
fourth missing one, 1 ms of holdover, a return out of phase, and the loss of the PLL or the monitor end in DOUBT; the loss of GREF is a
holdover, and its return in phase ends it (R243, R244, R257). -/
def Obligations.GaugeFollowsItsReference : Prop :=
  (∀ (v : Word) (s : State), PageOpen Pg.GAUGE s → lowest (loadBad true v s) = none →
    ∃ s', exec (.gaugeLoadArm v) s = .next s' ∧ s' = { s with regs := s'.regs, gauAt := s.gauge.toNat, latch := spDel Rg.GAU_LOAD_HI s.latch } ∧
      MemKept s s' ∧ RegsKept [Rg.GAU_LOAD_HI, Rg.GAU_STAT] s s' ∧ rg s' Rg.GAU_LOAD_HI = v ∧ gauState s' = gauArmed) ∧
  (∀ (t : Nat) (s : State),
    (gauState s = gauArmed → s.gauAt + 1000 ≤ t / 10 → ∃ s', exec (.gmarkEdge t) s = .next s' ∧
      s' = { s with regs := s'.regs, gauge := rg64 s Rg.GAU_LOAD_LO, evq := s'.evq, phase := 0, trim := 0, trimAt := 0 } ∧ MemKept s s' ∧
      RegsKept [Rg.GAU_STAT, Rg.PLUMB_REST_PEND] s s' ∧ gauState s' = gauLocked ∧ bit (rg s' Rg.PLUMB_REST_PEND) 1 = false) ∧
    let g1 := gaugeTo (t / 10) s
    let off := word (0x80000000 + ofSigned 16 (markOffset t))
    (gauState s = gauLocked → (markOffset t).natAbs ≤ 15 → ∃ s', exec (.gmarkEdge t) s = .next s' ∧
      s' = { s with regs := s'.regs, gauge := g1.gauge, phase := gaugePhase g1, trim := -(markOffset t),
                    trimAt := g1.gauge.toNat / 4096 } ∧ MemKept s s' ∧
      RegsKept [Rg.GAU_STAT, Rg.GAU_OFFSET] s s' ∧ gauState s' = gauLocked ∧ bits (rg s' Rg.GAU_STAT) 10 8 = 0 ∧
      rg s' Rg.GAU_OFFSET = off) ∧
    (gauTrusted s = true → 15 < (markOffset t).natAbs → ∃ s', exec (.gmarkEdge t) s = .next s' ∧
      Doubted (if 1000 < (markOffset t).natAbs then 4 else 3) s s' ∧
      (gauState s = gauLocked → (markOffset t).natAbs < 2 ^ 15 → rg s' Rg.GAU_OFFSET = off))) ∧
  (∀ s : State, gauTrusted s = true →
    let n := bits (rg s Rg.GAU_STAT) 10 8
    (n < 3 → ∃ s', exec .gmarkMissing s = .next s' ∧ s' = { s with regs := s'.regs, evq := s'.evq } ∧ MemKept s s' ∧
      RegsKept [Rg.GAU_STAT, Rg.GAU_MARK_MISS] s s' ∧ bits (rg s' Rg.GAU_STAT) 10 8 = n + 1 ∧ gauState s' = gauState s) ∧
    (n = 3 → ∃ s', exec .gmarkMissing s = .next s' ∧ Doubted 5 s s') ∧
    (∃ s', exec .pllLockLoss s = .next s' ∧ Doubted 6 s s') ∧ (∃ s', exec .gaugeMonitorFault s = .next s' ∧ Doubted 7 s s')) ∧
  (∀ s : State,
    (gauState s = gauArmed → ∃ s', exec .gaugeArmTimeout s = .next s' ∧
      s' = { s with regs := s'.regs, gauge := (gaugeTo (s.gauAt + 2 ^ 25) s).gauge, evq := s'.evq } ∧ MemKept s s' ∧
      RegsKept [Rg.GAU_STAT] s s' ∧ gauState s' = gauFree) ∧
    (gauState s = gauLocked → ∃ s', exec .grefLoss s = .next s' ∧
      s' = { s with regs := s'.regs, gauAt := s.gauge.toNat, evq := s'.evq } ∧ MemKept s s' ∧
      RegsKept [Rg.GAU_STAT, Rg.GAU_HOLD, Rg.GAU_HOLD_COUNT] s s' ∧ gauState s' = gauHoldover ∧
      bit (rg s' Rg.GAU_STAT) 3 = false ∧ rg s' Rg.GAU_HOLD = 0) ∧
    (gauState s = gauHoldover → (∃ s', exec (.grefReturn true) s = .next s' ∧
        s' = { s with regs := s'.regs, evq := s'.evq } ∧ MemKept s s' ∧ RegsKept [Rg.GAU_STAT, Rg.GAU_HOLD] s s' ∧
        gauState s' = gauLocked ∧ bit (rg s' Rg.GAU_STAT) 3 = true) ∧
      (∃ s', exec (.grefReturn false) s = .next s' ∧ Doubted 2 s s') ∧ ∃ s', exec .holdoverLimit s = .next s' ∧ Doubted 1 s s'))

/-! ### Memory controllers and stacks (chapter 9) -/

/-- Accesses of memory: a request waits for its channel's windows and counts its corrected words, those of the trays too, while a relocation
goes on; a hot stack gains extra windows at 85 degrees and loses them at 82; a scrub read takes the next burst of its channel in a window
of its own, counts what it finds and leaves an uncorrectable burst so; the cabinet's loads and stores reach the addresses given or are
access faults, and what L2 holds of them stays as it is until it is invalidated; a glue unit adds to every element of its unit, saturated,
and to no other byte, but is poisoned where it arrives with a parity error (R211, R212, R215, R217, R220 to R222, R224, R233, R234, R372). -/
def Obligations.MemoryServesItsRequests : Prop :=
  (∀ (a t dur lock ce : Nat) (row : Bool) (tce : List (Nat × Nat)) (copied : Nat) (par : List Nat) (s : State), a < memEnd s →
    (∀ e, e ∈ tce → e.1 < 132) →
    ((∀ k, k < 8 → stackState s k ≠ 2) →
      let j := jmcAt s a
      let w1 := windowWait (260 * (chanOf s a % 15)) t dur
      let w2 := if bit (rg s (Rg.JST_STAT j)) 16 then windowWait (260 * (chanOf s a % 15) + 1950) (t + w1) dur else 0
      ∃ s', exec (.jmcAccess a t dur lock ce row tce copied par) s = .next s' ∧
        s' = { s with regs := s'.regs, evq := s'.evq, parAt := s'.parAt } ∧ MemKept s s' ∧
        (∀ w, w ∈ s'.parAt ↔ w ∈ s.parAt ∨ w ∈ par) ∧
        RegsKept ([Rg.JMC_REF_WAIT j, Rg.JMC_XREF_WAIT j, Rg.JMC_CE_COUNT j, Rg.HEALTH (Pg.JMC j), Rg.JST_REPAIR j] ++
          tce.flatMap fun e => [Rg.TRAY_ECC_CE e.1, Rg.HEALTH (Pg.TRAY e.1)]) s s' ∧
        rg s' (Rg.JMC_REF_WAIT j) = word (min 0xFFFFFFFF ((rg s (Rg.JMC_REF_WAIT j)).toNat + w1)) ∧
        rg s' (Rg.JMC_XREF_WAIT j) = word (min 0xFFFFFFFF ((rg s (Rg.JMC_XREF_WAIT j)).toNat + (w2 + lock))) ∧
        rg s' (Rg.JMC_CE_COUNT j) = word (min 0xFFFFFFFF ((rg s (Rg.JMC_CE_COUNT j)).toNat + ce)) ∧
        (∀ b n, tce = [(b, n)] → rg s' (Rg.TRAY_ECC_CE b) = word (min 0xFFFFFFFF ((rg s (Rg.TRAY_ECC_CE b)).toNat + n))) ∧
        (row = false → rg s' (Rg.JST_REPAIR j) = rg s (Rg.JST_REPAIR j))) ∧
    ((∃ k, k < 8 ∧ stackState s k = 2) → bits (rg s (Rg.JMC_RELOC_PROG 0)) 27 0 < copied → copied ≤ stackGranules →
      ∃ s', exec (.jmcAccess a t dur lock ce row tce copied par) s = .next s' ∧ MemKept s s' ∧
        ∀ k, k < 8 → rg s' (Rg.JMC_RELOC_PROG k) = word copied)) ∧
  ((∀ (j : Nat) (s : State), j < 8 →
    (85 < stackTemp s j → bit (rg s (Rg.JST_STAT j)) 16 = false → ∃ s', exec (.xrefBegin j) s = .next s' ∧
      s' = { s with regs := s'.regs, evq := s'.evq } ∧ MemKept s s' ∧ RegsKept [Rg.JST_STAT j] s s' ∧
      bit (rg s' (Rg.JST_STAT j)) 16 = true) ∧
    (stackTemp s j ≤ 82 → bit (rg s (Rg.JST_STAT j)) 16 = true → ∃ s', exec (.xrefEnd j) s = .next s' ∧
      s' = { s with regs := s'.regs, evq := s'.evq } ∧ MemKept s s' ∧ RegsKept [Rg.JST_STAT j] s s' ∧
      bit (rg s' (Rg.JST_STAT j)) 16 = false)) ∧
   ∀ (gc a t res : Nat) (row : Bool) (s : State), gc < 256 →
    (scrubOn s = true → chanOf s a = gc → a < memEnd s → scrubWindow s gc t = true →
      let j := gc / 32
      let n := spGet 0 gc s.scrubPos + 1
      let bad := res = 2 ∨ burstBad s a = true
      ∃ s', exec (.scrubRead gc a t res row) s = .next s' ∧ MemKept s s' ∧
        s' = { s with regs := s'.regs, evq := s'.evq, memBad := s'.memBad, gauge := (gaugeTo t s).gauge,
                      scrubPos := spPut 0 gc (n % chanBursts) s.scrubPos, scrubWin := spPut 0 gc (t / 3900 + 1) s.scrubWin } ∧
        RegsKept [Rg.JST_SCRUB_PASS j, Rg.JST_SCRUB_CE j, Rg.JST_SCRUB_UE j, Rg.JST_REPAIR j, Rg.HEALTH (Pg.JSTACK j)] s s' ∧
        (∀ k, k ∈ s'.memBad ↔ k ∈ s.memBad ∨ res = 2 ∧ burstBad s a = false ∧ k = memLoc s a / 16) ∧
        rg s' (Rg.JST_SCRUB_PASS j) =
          word (min 0xFFFFFFFF ((rg s (Rg.JST_SCRUB_PASS j)).toNat + if n = chanBursts then 1 else 0)) ∧
        rg s' (Rg.JST_SCRUB_UE j) = word (min 0xFFFFFFFF ((rg s (Rg.JST_SCRUB_UE j)).toNat + if bad then 1 else 0)) ∧
        rg s' (Rg.JST_SCRUB_CE j) = word (min 0xFFFFFFFF ((rg s (Rg.JST_SCRUB_CE j)).toNat + if res = 1 ∧ ¬ bad then 1 else 0))) ∧
    (scrubOn s = false ∨ chanOf s a ≠ gc ∨ memEnd s ≤ a ∨ scrubWindow s gc t = false → exec (.scrubRead gc a t res row) s = .next s)) ∧
  (∀ (a n : Nat) (s : State), manageable s = true →
    ((a + n ≤ memEnd s → rangeAny a n (memUe s) = false →
      exec (.cabinetMemAccess a n none .uncached) s = .next { s with cabData := memBytes s a n, cabFault := false }) ∧
     (memEnd s < a + n → exec (.cabinetMemAccess a n none .uncached) s = .next { s with cabFault := true }) ∧
     ∀ bs : List Byte, (unitWriteOk s a bs.length = false →
        exec (.cabinetMemAccess a n (some bs) .uncached) s = .next { s with cabFault := true }) ∧
      (unitWriteOk s a bs.length = true →
        ∃ s', exec (.cabinetMemAccess a n (some bs) .uncached) s = .next s' ∧
          s' = { s with mem := s'.mem, memBad := s'.memBad, parAt := s'.parAt, regs := s'.regs, evq := s'.evq, cause := s'.cause,
                        cabFault := false } ∧ RegsKept parRegs s s' ∧ MemKeptBut a bs.length s s' ∧
          (parHits s a bs.length = [] → s'.regs = s.regs ∧ s'.evq = s.evq ∧ s'.cause = s.cause) ∧
          ((∀ i k, i < bs.length → k < bs.length → memLoc s (a + i) = memLoc s (a + k) → i = k) →
            memBytes s' a bs.length = bs))) ∧
    ((a + n ≤ memEnd s → (∀ k, k ∈ l2Lines a n → spGet [] k s.l2 = [] → lockedLine s k = false →
        rangeAny (64 * k) 64 (memUe s) = false) →
      ∃ s', exec (.cabinetMemAccess a n none .cached) s = .next s' ∧
        s' = { s with l2 := s'.l2, cabFault := false,
                      cabData := (List.range n).map fun i => (l2Line s ((a + i) / 64)).getD ((a + i) % 64) 0 } ∧
        ∀ k, l2Line s' k = l2Line s k) ∧
     (∃ s', exec (.cabinetMemAccess a n none .inval) s = .next s' ∧ s' = { s with l2 := s'.l2 } ∧
        ∀ k, spGet [] k s'.l2 = if k ∈ l2Lines a n ∧ lockedLine s k = false then [] else spGet [] k s.l2) ∧
     (loaderLocked s = true → (∀ k, (spGet [] k s.l2).length ≤ 64) → ∃ s', exec (.cabinetMemAccess a n none .unlock) s = .next s' ∧ loaderLocked s' = false ∧
        MemKeptBut 0x1FFE00000 0x200000 s s'))) ∧
  (∀ (fmt a ea : Nat) (bs : List Byte) (ein : Int) (s : State), fmtFx fmt = true → bs.length = glueSize fmt → a % 32 = 0 →
    s.chip ≠ .rest → remoteWriteStatus s a (glueSize fmt) = .ok → remoteWriteStatus s ea 2 = .ok →
    let par := parHits s a (glueSize fmt) ++ parHits s ea 2
    (par ≠ [] → ∃ s', exec (.glueUp fmt a bs ea ein) s = .next s' ∧ s'.mem = s.mem ∧ RegsKept parRegs s s' ∧
      ∀ w, w ∈ par → memLoc s (4 * w) / 16 ∈ s'.memBad) ∧
    (par = [] → rangeAny a (glueSize fmt) (memUe s) = false → rangeAny ea 2 (memUe s) = false →
    let n := fxN fmt
    let cnt := glueSize fmt / (n / 8)
    let sums := ((chunks (n / 8) cnt (memBytes s a (glueSize fmt))).zip (chunks (n / 8) cnt bs)).map
      fun p => toSigned n p.1 + toSigned n p.2
    let sat (v : Int) : Int := if fxSat n false < v then fxSat n false else if v < -(2 ^ (n - 1) : Int) then fxSat n true else v
    let old := toSigned 16 (leNat (memBytes s ea 2))
    ∃ s', exec (.glueUp fmt a bs ea ein) s = .next s' ∧
      s' = { s with mem := s'.mem, memBad := s'.memBad, regs := s'.regs, evq := s'.evq, cause := s'.cause } ∧
      RegsKept (Rg.JMC_GLUE_COUNT (jmcAt s a) :: hdrRegs (Pg.JMC (jmcAt s a))) s s' ∧
      rg s' (Rg.JMC_GLUE_COUNT (jmcAt s a)) = word (min 0xFFFFFFFF ((rg s (Rg.JMC_GLUE_COUNT (jmcAt s a))).toNat + 1)) ∧
      s'.mem = (memPutAll ea (leBytes 2 (ofSigned 16 (if old = zeroE then ein else old)))
        (memPutAll a (sums.flatMap fun v => leBytes (n / 8) (ofSigned n (sat v))) s)).mem ∧
      ∀ x, (∀ i, i < glueSize fmt → memLoc s x ≠ memLoc s (a + i)) → (∀ i, i < 2 → memLoc s x ≠ memLoc s (ea + i)) →
        memByte s' x = memByte s x))

/-- A write of a guarded region's control word reaches all eight copies of the table; STACK_RETRAIN and STACK_RETIRE take a stack out of
service, RETRAIN_COMPLETE and RELOCATION_COMPLETE end them, the granules that could not be copied reading uncorrectable (R223 to R225,
R228, R231). -/
def Obligations.RegionsAndStacksAreManaged : Prop :=
  (∀ (j n : Nat) (v : Word) (s : State), j < 8 → n < 64 → PageOpen (Pg.JMC j) s → lowest (guardCtlBad n v s) = none →
    ∃ s', exec (.guardRegionWrite j n v) s = .next s' ∧ s' = { s with regs := s'.regs } ∧
      RegsKept ((List.range 8).map fun k => Rg.JMC_GRn_CTL k n) s s' ∧
      ∀ k, k < 8 → rg s' (Rg.JMC_GRn_CTL k n) = v &&& 0xFFC0FFFF) ∧
  (∀ (tag : BitVec 16) (s : State), CmdOpen inRUQST s →
    let j := bits (arg0 s) 2 0
    (∀ k, k < 8 → k ≠ j → stackState s k ≠ 1 ∧ stackState s k ≠ 2) → stackState s j ≠ 3 →
    (stepLive s = true → 100000 ≤ (rg s Rg.HOLD_TO).toNat ∧ 100000 ≤ (rg s (Rg.JMC_TKT_TO 0)).toNat) →
    ∃ s', exec (.stackRetrain tag) s = .next s' ∧ s' = { s with regs := s'.regs, evq := s'.evq } ∧ MemKept s s' ∧
      RegsKept [Rg.COMMAND_STATUS, Rg.JST_STAT j] s s' ∧ rg s' Rg.COMMAND_STATUS = cmdWait 0x05 tag ∧ stackState s' j = 1) ∧
  (∀ (ok : Bool) (j : Nat) (s : State), j < 8 → stackState s j = 1 → (∀ k, k < j → stackState s k ≠ 1) →
    ∃ s', exec (.retrainComplete ok) s = .next s' ∧ s' = { s with regs := s'.regs, evq := s'.evq } ∧ MemKept s s' ∧
      RegsKept [Rg.COMMAND_STATUS, Rg.JST_STAT j, Rg.JST_RETRAIN j, Rg.JST_REPAIR j] s s' ∧
      stackState s' j = (if ok then 0 else 4) ∧
      rg s' (Rg.JST_RETRAIN j) = word (min 0xFFFFFFFF ((rg s (Rg.JST_RETRAIN j)).toNat + 1)) ∧
      (ok = false → rg s' (Rg.JST_REPAIR j) = rg s (Rg.JST_REPAIR j)) ∧
      ∀ tag, rg s Rg.COMMAND_STATUS = cmdWait 0x05 tag → rg s' Rg.COMMAND_STATUS = cmdWord 0x05 tag (b2n !ok)) ∧
  (∀ (tag : BitVec 16) (s : State), CmdOpen inRUQT s → s.retired = false →
    (∀ r, r ∈ regionsOf s 0 → overlap r.base (2 * r.size) reliefBase reliefSize = false) →
    let j := bits (arg0 s) 2 0
    ∃ s', exec (.stackRetire tag) s = .next s' ∧
      s' = { s with regs := s'.regs, evq := s'.evq, retired := true, relocOff := decide (stackState s j = 4) } ∧
      RegsKept (Rg.COMMAND_STATUS :: Rg.JST_STAT j :: hdrRegs (Pg.JMC j) ++ (List.range 8).map Rg.JMC_STAT) s s' ∧
      rg s' Rg.COMMAND_STATUS = cmdWait 0x06 tag ∧ stackState s' j = 2 ∧
      ∀ k, k < 8 → rg s' (Rg.JMC_STAT k) = word (0xC0000000 + j * 0x1000000 + bits (rg s (Rg.JMC_STAT 0)) 0 0)) ∧
  (∀ (found : List Nat) (j : Nat) (s : State), j < 8 → stackState s j = 2 → (∀ k, k < j → stackState s k ≠ 2) →
    let p := bits (rg s (Rg.JMC_RELOC_PROG 0)) 27 0
    ∃ s', exec (.relocationComplete found) s = .next s' ∧
      s' = { s with regs := s'.regs, evq := s'.evq, memBad := s'.memBad, relocOff := false } ∧ s'.mem = s.mem ∧
      RegsKept ([Rg.COMMAND_STATUS, Rg.JST_STAT j, Rg.JMC_UE_COUNT j, Rg.JMC_UE_ADDR_LO j, Rg.JMC_UE_ADDR_HI j] ++ hdrRegs (Pg.JMC j) ++
        (List.range 8).map Rg.JMC_STAT ++ (List.range 8).map Rg.JMC_RELOC_PROG) s s' ∧
      stackState s' j = 3 ∧ (∀ k, k < 8 → bit (rg s' (Rg.JMC_STAT k)) 30 = false) ∧
      (p < stackGranules → ∀ k, k < 8 → rg s' (Rg.JMC_RELOC_PROG k) = word stackGranules) ∧
      (∀ b, b ∈ s'.memBad ↔ b ∈ s.memBad ∨ (b / 16 % 8 = j ∧ p ≤ b / 128 ∧ b / 128 < stackGranules ∧
        (s.relocOff = true ∨ b / 16 ∈ found ∨ ∃ c, c ∈ s.memBad ∧ c / 16 = b / 16))) ∧
      ∀ tag, rg s Rg.COMMAND_STATUS = cmdWait 0x06 tag → rg s' Rg.COMMAND_STATUS = cmdWord 0x06 tag 0)

/-! ### Fences, resets and escalation (section 14.5) -/

/-- COMPUTE_RESET, BENCH_RESET and DOMAIN_RESET, where they are accepted, fence their domain and ask for its reset; FENCE_DRAIN_TIMEOUT ends
what is outstanding in a fenced domain; RESET_START, once the domain is drained, resets it: a bench and the compute domain lose their
state, a link die goes DOWN, the chip passes into BOOT (R355, R356, R358). -/
def Obligations.DomainsAreFencedDrainedAndReset : Prop :=
  (∀ (tag : BitVec 16) (s : State), CmdOpen inRUQST s →
    (resetting s 0x1000 = false → ∃ s', exec (.computeReset tag) s = .next s' ∧ ResetAsked 0x1000 s s' ∧
      rg s' Rg.COMMAND_STATUS = cmdWait 0x01 tag ∧ RegsKept (Rg.COMMAND_STATUS :: domRegs 0x1000) s s') ∧
    (∀ b, b = bits (arg0 s) 7 0 → b < 132 → resetting s (benchDom b) = false →
      (logOf s b = none ∨ blkState s (Pg.BENCH b) = 4 ∧ stepLive s = false) → ∃ s', exec (.benchReset tag) s = .next s' ∧
      ResetAsked (benchDom b) s s' ∧ rg s' Rg.COMMAND_STATUS = cmdWait 0x02 tag ∧
      RegsKept (Rg.COMMAND_STATUS :: domRegs (benchDom b)) s s') ∧
    (∀ d, d = bits (arg0 s) 15 0 → d = 0 ∨ d = 0x3000 ∨ d = 0x3001 → resetting s d = false →
      ∃ s', exec (.domainReset tag) s = .next s' ∧ ResetAsked d s s' ∧ rg s' Rg.COMMAND_STATUS = cmdWait 0x0F tag ∧
      RegsKept (Rg.COMMAND_STATUS :: domRegs d) s s')) ∧
  (∀ (d : Nat) (begun : List (Nat × Nat × List Nat)) (s : State), s.resets.any (fun r => r.dom = d && !r.running) = true →
    ∃ s', exec (.fenceDrainTimeout d begun) s = .next s' ∧ s'.fenced = s.fenced ∧ s'.resets = s.resets ∧
      s'.gauge = s.gauge ∧ s'.chip = s.chip ∧ (∀ b, b ∈ domBenches d → (bench s' b).tickets = []) ∧
      ∀ c, c ∈ domFlows d s → (flow s' c).ops = []) ∧
  (∀ (d : Nat) (s : State), s.resets.any (fun r => r.dom = d && !r.running) = true → inLarger s d = false →
    (drained d s = true ∨ d = 0) →
    (∀ b, d = benchDom b → b < 132 → ∃ s', exec (.resetStart d) s = .next s' ∧ MemKept s s' ∧ bench s' b = {} ∧
      (∀ k, k ≠ b → bench s' k = bench s k) ∧ s'.gclamps = s.gclamps ∧ s'.stepSt = s.stepSt ∧ s'.chip = s.chip ∧
      (∀ r, r ∈ s'.resets → r.dom = d → r.running = true) ∧ (blkState s (Pg.BENCH b) ≠ 0 → blkState s' (Pg.BENCH b) = 1)) ∧
    (d = 0x1000 → ∃ s', exec (.resetStart d) s = .next s' ∧ MemKept s s' ∧ s'.benches = [] ∧ s'.gclamps = [] ∧ s'.gclampReq = [] ∧
      s'.hold = .none ∧ s'.late = [] ∧ s'.swap = none ∧ s'.benchMap = s.benchMap ∧ s'.stepSt = s.stepSt ∧ s'.chip = s.chip) ∧
    (∀ i, i < 2 → d = 0x3000 + i → ∃ s', exec (.resetStart d) s = .next s' ∧ MemKept s s' ∧
      (∀ x, x < 16 → linkState s' x = if splDie x = i then linkDown else linkState s x) ∧
      (∀ x, spline s' x = if splDie x = i then {} else spline s x) ∧ (∀ c, flow s' c = if dieOf c = i then {} else flow s c) ∧
      s'.benches = s.benches ∧ s'.chip = s.chip) ∧
    (d = 0 → ∃ s', exec (.resetStart 0) s = .next s' ∧ s'.chip = .boot ∧ s'.benches = [] ∧ s'.splines = [] ∧ s'.flows = [] ∧
      s'.mem = [] ∧ s'.stepSt = .none ∧ s'.gauge = 0 ∧ s'.pending = s.pending ∧
      ∀ a, domHolds 0 (pageResetDom (regCls a) (regInst a)) = true → keptReg a = false → a ≠ Rg.GAU_STAT → rg s' a = regReset a))

/-- RESET_COMPLETE releases the fence of a bench or of the compute domain, reports the command and leaves a mapped bench IDLE; a link die
comes back with the other's epoch and member number, and the chip through its boot chain. RESET_ESCALATION passes a bench's reset on to
the compute domain, records it and drives rest; the chip's second failure holds the part in reset (R355 to R358). -/
def Obligations.ResetsCompleteOrEscalate : Prop :=
  (∀ (b us : Nat) (fails : List Nat) (r0 : BootRes) (r : ResetSt) (tag : BitVec 16) (s : State), b < 132 →
    s.resets = [r] → r.dom = benchDom b → r.running = true → r.late = false → r.was = [(b, 4)] → (logOf s b).isSome = true →
    rg s Rg.COMMAND_STATUS = cmdWait 0x02 tag →
    ∃ s', exec (.resetComplete (benchDom b) us fails r0) s = .next s' ∧ MemKept s s' ∧
      s' = { s with regs := s'.regs, evq := s'.evq, resets := [], fenced := s.fenced.filter (fun d => d ≠ benchDom b),
                    fencedPl := s.fencedPl.filter (fun d => d ≠ benchDom b), frozen := s'.frozen } ∧
      blkState s' (Pg.BENCH b) = 2 ∧ rg s' Rg.COMMAND_STATUS = cmdWord 0x02 tag 0 ∧
      RegsKept [Rg.COMMAND_STATUS, Rg.STATE (Pg.BENCH b)] s s') ∧
  (∀ (us : Nat) (r0 : BootRes) (r : ResetSt) (tag : BitVec 16) (s : State), s.resets = [r] → r.dom = 0x1000 → r.running = true →
    r.late = false → s.hold = .none → (∀ e, e ∈ r.was → e.1 < 132 ∧ e.2 < 16) → (r.was.map (·.1)).Nodup →
    rg s Rg.COMMAND_STATUS = cmdWait 0x01 tag →
    ∃ s', exec (.resetComplete 0x1000 us [] r0) s = .next s' ∧ MemKept s s' ∧ s'.resets = [] ∧
      (fencedDom s 0 = false → fencedDom s' 0x1000 = false ∧ s'.frozen = false) ∧
      rg s' Rg.COMMAND_STATUS = cmdWord 0x01 tag 0 ∧
      ∀ e, e ∈ r.was → blkState s' (Pg.BENCH e.1) = if (logOf s e.1).isSome ∧ e.2 ≠ 0 then 2 else e.2) ∧
  (∀ (i us : Nat) (fails : List Nat) (r0 : BootRes) (r : ResetSt) (s : State), i < 2 → s.resets = [r] → r.dom = 0x3000 + i →
    r.running = true → ∃ s', exec (.resetComplete (0x3000 + i) us fails r0) s = .next s' ∧ MemKept s s' ∧ s'.resets = [] ∧
      blkState s' (Pg.LINKDIE i) = 1 ∧ rg s' (Rg.LKD_EPOCH i) = rg s (Rg.LKD_EPOCH (1 - i)) ∧
      rg s' (Rg.LKD_MEMBER i) = rg s (Rg.LKD_MEMBER (1 - i))) ∧
  (∀ (us : Nat) (fails : List Nat) (r0 : BootRes) (r : ResetSt) (s : State), s.resets = [r] → r.dom = 0 → r.running = true →
    s.chip = .boot → ∃ s', exec (.resetComplete 0 us fails r0) s = .next s' ∧ s'.resets = [] ∧ s'.gauge = 0 ∧
      (s'.chip = .calib ∧ s'.chipTries = 0 ∨ s'.chip = .boot ∧ bit (rg s' Rg.BOOT_STAT) 31 = true)) ∧
  (∀ (b : Nat) (s : State), b < 132 → resetting s (benchDom b) = true → inLarger s (benchDom b) = false →
    resetting s 0x1000 = false → restable s →
    ∃ s', exec (.resetEscalation (benchDom b) none) s = .next s' ∧ rg s' Rg.PLUMB_ESC = word (0x80000000 + benchDom b) ∧
      Rested 7 s s' ∧ bit (rg s' Rg.PLUMB_REST_PEND) 7 = true ∧ resetting s' 0x1000 = true ∧ fencedDom s' 0x1000 = true ∧
      s'.frozen = true) ∧
  (∀ s : State, resetting s 0 = true → inLarger s 0 = false → 2 ≤ s.chipTries →
    ∃ s', exec (.resetEscalation 0 none) s = .next s' ∧ s' = { s with regs := s'.regs, halted := true, restN := true, resets := [] } ∧
      MemKept s s' ∧ RegsKept [Rg.PLUMB_STAT] s s' ∧ bit (rg s' Rg.PLUMB_STAT) 30 = true)

/-! ### Bench swaps, structural tests and controllers (sections 14.7, 14.8 and 15.8) -/

/-- BENCH_SWAP records its swap, raising a hold where streams run; SWAP_COPY, once the bench is quiet, moves the bench's state and its jig
registers to the target, maps it, and leaves the old bench as its disposition says; SWAP_ABANDON keeps the mapping and the bench (R361 to
R363). TEST_BENCH starts the test of a bench in TEST, and TEST_COMPLETE records its verdict: a bench that passes is SPARE, one that fails
OFFLINE, its contents gone; a pattern segment that does not check gives no verdict and leaves the bench alone (R364, R407). -/
def Obligations.BenchesAreSwappedAndTested : Prop :=
  ((∀ (tag : BitVec 16) (s : State), CmdOpen [.ready, .run, .test] s →
     let l := bits (arg0 s) 6 0
     let p := bits (arg0 s) 15 8
     p < 132 → blkState s (Pg.BENCH p) = 6 → (∃ old, physOf s l = some old ∧
       (stepLive s = true → (blkState s (Pg.BENCH old) = 2 ∨ blkState s (Pg.BENCH old) = 3) ∧ 200 ≤ (rg s Rg.HOLD_TO).toNat)) →
     s.swap = none → freezing s = false → (∀ r, r ∈ s.resets → domHolds r.dom 0x1000 = false) → (∀ j, j < 8 → stackState s j ≠ 1) →
     bits (arg0 s) 17 16 ≠ 3 →
     let held := streamsBusy s && decide (s.hold = .none)
     ∃ s', exec (.benchSwap tag) s = .next s' ∧ MemKept s s' ∧ rg s' Rg.COMMAND_STATUS = cmdWait 0x03 tag ∧
       s' = { s with regs := s'.regs, hold := if held then .frozen else s.hold, frozen := s.frozen || held,
                     swap := some { l := l, p := p, disp := bits (arg0 s) 17 16, held := held } } ∧
       RegsKept [Rg.COMMAND_STATUS, Rg.HOLD_COUNT, Rg.HOLD_LAST] s s') ∧
   (∀ (w : SwapSt) (b : Nat) (s : State), s.swap = some w → physOf s w.l = some b → b < 132 → w.p < 132 → b ≠ w.p →
     swapQuiet s b = true → (w.held = true ∨ s.hold = .none ∧ streamsBusy s = false) → (bench s b).trayBad = [] →
     ∃ s', exec .swapCopy s = .next s' ∧ MemKept s s' ∧ bench s' w.p = { bench s b with locked := false } ∧ bench s' b = {} ∧
       (∀ k, k ≠ b → k ≠ w.p → bench s' k = bench s k) ∧ s'.benchMap = s.benchMap.set w.l w.p ∧ s'.swap = none ∧
       (∀ a, a ∈ jigRegs → rg s' (a + 0x1000 * w.p) = rg s (a + 0x1000 * b) ∧ rg s' (a + 0x1000 * b) = regReset (a + 0x1000 * b)) ∧
       blkState s' (Pg.BENCH b) = [6, 5, 0].getD w.disp 0 ∧
       (w.held = true → s.late = [] → s.hold = .frozen → s'.hold = .releasing) ∧
       ∀ tag, rg s Rg.COMMAND_STATUS = cmdWait 0x03 tag → rg s' Rg.COMMAND_STATUS = cmdWord 0x03 tag 0) ∧
   (∀ (ue : Bool) (w : SwapSt) (s : State), s.swap = some w → ∃ s', exec (.swapAbandon ue) s = .next s' ∧ MemKept s s' ∧
     s' = { s with swap := none, regs := s'.regs, evq := s'.evq, cause := s'.cause,
                   hold := if w.held = true ∧ s.late = [] ∧ s.hold = .frozen then .releasing else s.hold } ∧
     RegsKept [Rg.COMMAND_STATUS] s s' ∧
     ∀ tag, rg s Rg.COMMAND_STATUS = cmdWait 0x03 tag → rg s' Rg.COMMAND_STATUS = cmdWord 0x03 tag 2)) ∧
  ((∀ (tag : BitVec 16) (s : State), CmdOpen inRUQST s →
     let b := bits (arg0 s) 7 0
     b < 132 → inTest s b = true → s.testing = none → blkState s Pg.TEST = 2 →
     ∃ s', exec (.testBench tag) s = .next s' ∧ s' = { s with regs := s'.regs, evq := s'.evq, testing := some b } ∧ MemKept s s' ∧
       RegsKept [Rg.COMMAND_STATUS, Rg.TST_STAT, Rg.STATE Pg.TEST] s s' ∧ rg s' Rg.COMMAND_STATUS = cmdWait 0x04 tag ∧
       rg s' Rg.TST_STAT = word (0x80000000 + b) ∧ blkState s' Pg.TEST = 3) ∧
   (∀ (fails unit b : Nat) (s : State), b < 132 → unit < 8 → s.testing = some b → inTest s b = true →
     (∃ s', exec (.testComplete fails unit false) s = .next s' ∧ MemKept s s' ∧
       s' = { s with regs := s'.regs, evq := s'.evq, testing := none, benches := s'.benches, ttabBusy := s'.ttabBusy,
                     passed := s'.passed } ∧
       RegsKept [Rg.COMMAND_STATUS, Rg.TST_STAT, Rg.TST_FAILS, Rg.BENCH_TRY_INJ b, Rg.STATE Pg.TEST, Rg.STATE (Pg.BENCH b)] s s' ∧
       bench s' b = {} ∧ (∀ k, k ≠ b → bench s' k = bench s k) ∧ blkState s' (Pg.BENCH b) = (if fails = 0 then 6 else 0) ∧
       rg s' Rg.TST_FAILS = word (min 0xFFFFFFFF fails) ∧
       rg s' Rg.TST_STAT = (if fails = 0 then word (0x60000000 + b) else word (0x40000000 + unit * 0x1000000 + b)) ∧
       (fails = 0 → b ∈ s'.passed) ∧
       ∀ tag, rg s Rg.COMMAND_STATUS = cmdWait 0x04 tag → rg s' Rg.COMMAND_STATUS = cmdWord 0x04 tag 0) ∧
     (∃ s', exec (.testComplete fails unit true) s = .next s' ∧ MemKept s s' ∧
       s' = { s with regs := s'.regs, evq := s'.evq, testing := none } ∧
       RegsKept (Rg.COMMAND_STATUS :: Rg.TST_STAT :: Rg.STATE Pg.TEST :: hdrRegs Pg.TEST) s s' ∧
       rg s' Rg.TST_STAT = word (0x40000000 + b) ∧
       ∀ tag, rg s Rg.COMMAND_STATUS = cmdWait 0x04 tag → rg s' Rg.COMMAND_STATUS = cmdWord 0x04 tag 1)))

/-- FW_ACTIVATE fences a controller's block and restarts it from the slot named; its first heartbeat activates that slot and releases the
fence; FW_ACTIVATE_TIMEOUT reports the failure and restarts the slot that ran; BC_HEARTBEAT_TIMEOUT has Plumb restart a controller (R347,
R392, R393). -/
def Obligations.ControllersAreActivatedAndRestarted : Prop :=
  (∀ (tag : BitVec 16) (s : State), CmdOpen inRUQST s →
    let d := bits (arg0 s) 15 0
    let k := bits (arg1 s) 0 0
    fwCode d = true → ((fwUnit s d).slot k).isSome = true → fencedDom s d = false → (∀ r, r ∈ s.restarts → r.cmd = false) →
    (d / 16 = 0x50C → stackState s (d % 16) ≠ 1 ∧ stackState s (d % 16) ≠ 2) →
    ∃ s' r, exec (.fwActivate tag) s = .next s' ∧ MemKept s s' ∧ rg s' Rg.COMMAND_STATUS = cmdWait 0x07 tag ∧
      s'.restarts = s.restarts ++ [r] ∧ r.dom = d ∧ r.slot = k ∧ r.cmd = true ∧ r.blk = blkState s (fwPage d) ∧ fencedDom s' d = true ∧ s'.fw = s.fw ∧
      (d ≠ 0x52C0 → RegsKept (Rg.COMMAND_STATUS :: Rg.STATE (fwPage d) :: hdrRegs Pg.PLUMB ++ (List.range 16).map Rg.SPL_STAT) s s' ∧
        s'.benches = s.benches)) ∧
  (∀ (d : Nat) (r : Restart) (s : State), fwCode d = true → s.restarts = [r] → r.dom = d →
    (r.cmd = true → ∃ s', exec (.fwFirstHeartbeat d) s = .next s' ∧ MemKept s s' ∧ s'.restarts = [] ∧
      (fwUnit s' d).run = some r.slot ∧ (fwUnit s' d).last = some r.slot ∧ (∀ k, k ≠ d → fwUnit s' k = fwUnit s k) ∧
      s'.fenced = s.fenced.filter (fun k => !domHolds d k) ∧ s'.benches = s.benches ∧
      ∀ tag, rg s Rg.COMMAND_STATUS = cmdWait 0x07 tag → rg s' Rg.COMMAND_STATUS = cmdWord 0x07 tag 0) ∧
    (r.cmd = false → ∃ s', exec (.fwFirstHeartbeat d) s = .next s' ∧ MemKept s s' ∧ s'.restarts = [] ∧ s'.fw = s.fw ∧
      s'.fenced = s.fenced.filter (fun k => !domHolds d k) ∧ s'.benches = s.benches) ∧
    ∀ k, r.cmd = true → (fwUnit s d).run = some k → ∃ s', exec (.fwActivateTimeout d none) s = .next s' ∧ MemKept s s' ∧
      s' = { s with regs := s'.regs, evq := s'.evq, restarts := [{ r with slot := k, cmd := false }] } ∧
      RegsKept (Rg.COMMAND_STATUS :: hdrRegs Pg.CHIP) s s' ∧
      ∀ tag, rg s Rg.COMMAND_STATUS = cmdWait 0x07 tag → rg s' Rg.COMMAND_STATUS = cmdWord 0x07 tag 1) ∧
  (∀ (d k : Nat) (s : State), fwCode d = true → (fwUnit s d).run = some k → (∀ r, r ∈ s.restarts → r.dom ≠ d) →
    ∃ s' r, exec (.bcHeartbeatTimeout d none) s = .next s' ∧ MemKept s s' ∧ s'.restarts = s.restarts ++ [r] ∧ r.dom = d ∧ r.slot = k ∧
      r.cmd = false ∧ fencedDom s' d = true ∧ s'.fencedPl.any (domHolds · d) = true ∧
      rg s' (Rg.ERR_COUNT Pg.PLUMB) = word (min 0xFFFFFFFF ((rg s (Rg.ERR_COUNT Pg.PLUMB)).toNat + 2)))

/-! ### Rest, power states and operating points (sections 14.4 and 17.4 to 17.6) -/

/-- REST enters the rest state at once; REST_EXIT, with no cause active and the gauge LOCKED, resets the compute domain and leaves the state
that rest was entered from; QUIESCE and RESUME change the chip state. Each reports OK (R350, R353, R382). -/
def Obligations.RestAndQuiesceChangeTheChipState : Prop :=
  (∀ (tag : BitVec 16) (s : State), CmdOpen inRUQT s → ∃ s', exec (.rest tag) s = .next s' ∧ Rested 8 s s' ∧
    rg s' Rg.COMMAND_STATUS = cmdWord 0x09 tag 0 ∧ rg s' Rg.PLUMB_REST_PEND = rg s Rg.PLUMB_REST_PEND) ∧
  (∀ (tag : BitVec 16) (us : Nat) (fails : List Nat) (s : State), CmdOpen [.rest] s → rg s Rg.PLUMB_REST_PEND = 0 →
    gauState s = gauLocked → s.fenced = [] → s.resets = [] →
    ∃ s', exec (.restExit tag us fails) s = .next s' ∧ rg s' Rg.COMMAND_STATUS = cmdWord 0x0A tag 0 ∧
      (mapped128 s' = true → s'.chip = if s.restTest then .test else .ready) ∧
      (s'.chip = .test ∨ s'.chip = .ready ∨ s'.chip = .quiesce) ∧ s'.restN = false ∧ bit (rg s' Rg.PLUMB_STAT) 31 = false ∧
      bit (rg s' Rg.PLUMB_STAT) 30 = false ∧ s'.benches = [] ∧ s'.gclamps = [] ∧ s'.hold = .none ∧ s'.swap = none ∧
      s'.fenced = [] ∧ s'.resets = [] ∧ s'.frozen = false ∧ s'.stepSt = s.stepSt ∧ s'.mem = s.mem) ∧
  (∀ (tag : BitVec 16) (s : State), CmdOpen [.ready, .run] s → ∃ s', exec (.quiesce tag) s = .next s' ∧ MemKept s s' ∧
    s' = { s with chip := .quiesce, chipPrev := s.chip, regs := s'.regs, evq := s'.evq } ∧ RegsKept [Rg.COMMAND_STATUS] s s' ∧
    rg s' Rg.COMMAND_STATUS = cmdWord 0x0D tag 0) ∧
  (∀ (tag : BitVec 16) (s : State), CmdOpen [.quiesce] s → mapped128 s = true → ∃ s', exec (.resume tag) s = .next s' ∧ MemKept s s' ∧
    s' = { s with chip := .ready, chipPrev := .quiesce, regs := s'.regs, evq := s'.evq } ∧ RegsKept [Rg.COMMAND_STATUS] s s' ∧
    rg s' Rg.COMMAND_STATUS = cmdWord 0x0E tag 0)

/-- The power states: ACTIVE and IDLE are entered at once; NAP loses the benches and is reported at the wake; DEEP loses all but its wake
enables and what never resets. A wake source that is enabled begins a wake, which NAP_WAKE and DEEP_WAKE end in READY, or in QUIESCE
without 128 mapped benches, and in the boot chain (R13, R430 to R433, Table 17-6). -/
def Obligations.PowerStatesAreEnteredAndLeft : Prop :=
  (∀ (tag : BitVec 16) (s : State), CmdOpen [.ready, .quiesce] s → lowest (powerBad s) = none →
    (∃ s', exec (.powerStateActive tag) s = .next s' ∧ s' = { s with regs := s'.regs, evq := s'.evq } ∧ MemKept s s' ∧
      RegsKept [Rg.CHIP_CMD_ARG0, Rg.COMMAND_STATUS, Rg.PWR_STAT] s s' ∧ pstate s' = 0 ∧
      rg s' Rg.COMMAND_STATUS = cmdWord 0x0B tag 0) ∧
    (∃ s', exec (.powerStateIdle tag) s = .next s' ∧ s' = { s with regs := s'.regs, evq := s'.evq } ∧ MemKept s s' ∧
      RegsKept [Rg.CHIP_CMD_ARG0, Rg.COMMAND_STATUS, Rg.PWR_STAT] s s' ∧ pstate s' = 1 ∧
      rg s' Rg.COMMAND_STATUS = cmdWord 0x0B tag 0) ∧
    (∃ s', exec (.powerStateNap tag) s = .next s' ∧ MemKept s s' ∧ pstate s' = 2 ∧ rg s' Rg.COMMAND_STATUS = cmdWait 0x0B tag ∧
      s' = { s with regs := s'.regs, evq := s'.evq, telLost := s'.telLost, benches := [], ttabBusy := [], chip := .nap,
                    chipPrev := s.chip } ∧
      ∀ a, pageResetDom (regCls a) (regInst a) / 0x1000 ≠ 2 → a ∉ [Rg.CHIP_CMD_ARG0, Rg.COMMAND_STATUS, Rg.PWR_STAT] →
        rg s' a = rg s a) ∧
    (∃ s', exec (.powerStateDeep tag) s = .next s' ∧ s'.chip = .deep ∧ s'.benches = [] ∧ s'.splines = [] ∧ s'.flows = [] ∧
      s'.mem = [] ∧ s'.gclamps = [] ∧ s'.stepSt = .none ∧ s'.gauge = 0 ∧ s.bootNo < s'.bootNo ∧ s'.pending = s.pending ∧
      s'.ownerKeys = s.ownerKeys ∧ rg s' Rg.PWR_WAKE_EN = rg s Rg.PWR_WAKE_EN ∧ rg s' Rg.COMMAND_STATUS = cmdWord 0x0B tag 0)) ∧
  (∀ (k : Nat) (s : State), s.chip = .nap → s.wakeReq = some k → (∀ b, b ∈ s.benchMap → b < 132) →
    ∃ s', exec .napWake s = .next s' ∧ MemKept s s' ∧ pstate s' = 0 ∧ rg s' Rg.PWR_WAKE_SRC = word (0x80000000 + k) ∧
      s' = { s with regs := s'.regs, evq := s'.evq, wakeReq := none, chipPrev := .nap,
                    chip := if s.benchMap.length = 128 ∧ ∀ b, b ∈ s.benchMap → blkState s (Pg.BENCH b) ≠ 0 then .ready else .quiesce } ∧
      (∀ b, b ∈ s.benchMap → blkState s' (Pg.BENCH b) = if blkState s (Pg.BENCH b) = 0 then 0 else 2) ∧
      RegsKept ([Rg.COMMAND_STATUS, Rg.PWR_STAT, Rg.PWR_WAKE_SRC] ++ s.benchMap.map fun b => Rg.STATE (Pg.BENCH b)) s s' ∧
      ∀ tag, rg s Rg.COMMAND_STATUS = cmdWait 0x0B tag → rg s' Rg.COMMAND_STATUS = cmdWord 0x0B tag 0) ∧
  (∀ (k rail : Nat) (r : BootRes) (s : State), s.chip = .deep → s.wakeReq = some k →
    (∃ s', exec (.deepWake r) s = .next s' ∧ (s'.chip = .calib ∨ s'.chip = .boot ∧ bit (rg s' Rg.BOOT_STAT) 31 = true) ∧
      s'.wakeReq = none ∧ s'.gauge = 0 ∧ s'.mem = [] ∧ rg s' Rg.PWR_WAKE_SRC = word (0x80000000 + k)) ∧
    (∃ s', exec (.deepWakeTimeout rail) s = .next s' ∧ s' = { s with regs := s'.regs, wakeReq := none } ∧
      RegsKept [Rg.PWR_REG_FAIL, Rg.PLUMB_STAT] s s' ∧ bit (rg s' Rg.PLUMB_STAT) 30 = true ∧
      rg s' Rg.PWR_REG_FAIL = word (0x80000000 + rail % 16 * 0x10000 + 1))) ∧
  (∀ s : State, s.chip = .nap ∨ s.chip = .deep → s.wakeReq = none →
    (bit (rg s Rg.PWR_WAKE_EN) 3 = true → exec .wakePin s = .next { s with wakeReq := some 3 }) ∧
    (bit (rg s Rg.PWR_WAKE_EN) 2 = true → exec .wake s = .next { s with wakeReq := some 2 }) ∧
    ∀ x, x < 16 → bit (rg s Rg.PWR_WAKE_EN) 1 = true → ∃ s', exec (.knockRecognised x) s = .next s' ∧
      s' = { s with evq := s'.evq, wakeReq := some 1 }) ∧
  (∀ s : State, s.chip = .ready → pstate s = 1 → bit (rg s Rg.PWR_WAKE_EN) 3 = true →
    ∃ s', exec .wakePin s = .next s' ∧ s' = { s with regs := s'.regs, evq := s'.evq } ∧ MemKept s s' ∧
      RegsKept [Rg.PWR_STAT, Rg.PWR_WAKE_SRC] s s' ∧ pstate s' = 0 ∧ rg s' Rg.PWR_WAKE_SRC = word 0x80000003)

/-- SET_OP takes its operating point when the regulator answers within its three repeats, counting them, and otherwise fails and drives rest;
the throttle is entered above ILIM and left below 90 % of it, its time and count kept; a regulator's fault is reported (R423, R425, R428,
R429). What Plumb watches drives rest with its own cause: over-voltage, over-temperature, a supply fault, a missing heartbeat, its own
lockstep mismatch; a command that reaches the part in the same Plumb cycle is refused with reason PLUMB (R18); their ends clear the cause, a second missing heartbeat resets the cabinet, a loss of the crystal puts the gauge in
DOUBT, and a loss of main power stops the part (R346, R348, R351, R436, R437). -/
def Obligations.PowerIsSetThrottledAndWatched : Prop :=
  ((∀ (tag : BitVec 16) (fails mv : Nat) (s : State), CmdOpen [.ready, .quiesce, .test] s → fencedDom s 0x5200 = false →
     bits (arg0 s) 2 0 ≤ 3 →
     (fails < 4 → ∃ s', exec (.setOp tag fails mv) s = .next s' ∧ s' = { s with regs := s'.regs, evq := s'.evq } ∧ MemKept s s' ∧
       RegsKept [Rg.COMMAND_STATUS, Rg.PWR_STAT, Rg.AVS_STAT, Rg.AVS_RETRY] s s' ∧ opNow s' = bits (arg0 s) 2 0 ∧
       rg s' Rg.AVS_STAT = word (0x40000000 + mv % 1024) ∧
       rg s' Rg.AVS_RETRY = word (min 0xFFFFFFFF ((rg s Rg.AVS_RETRY).toNat + fails)) ∧
       rg s' Rg.COMMAND_STATUS = cmdWord 0x0C tag 0) ∧
     (4 ≤ fails → ∃ s', exec (.setOp tag fails mv) s = .next s' ∧ Rested 5 s s' ∧
       (opNow s' = opNow s ∨ opNow s < bits (arg0 s) 2 0 ∧ opNow s' = bits (arg0 s) 2 0) ∧
       rg s' Rg.COMMAND_STATUS = cmdWord 0x0C tag 1)) ∧
   (∀ (iest us : Nat) (oc : Bool) (s : State),
     (clocked s = true → bit (rg s Rg.PWR_STAT) 16 = false → (oc = true ∨ thrLimit s < iest) →
       ∃ s', exec (.throttleStart iest oc) s = .next s' ∧ s' = { s with regs := s'.regs, evq := s'.evq, throttled := true } ∧
         MemKept s s' ∧ RegsKept [Rg.PWR_STAT, Rg.PWR_THR_COUNT] s s' ∧ bit (rg s' Rg.PWR_STAT) 16 = true ∧
         bits (rg s' Rg.PWR_STAT) 11 0 = min 0xFFF iest ∧
         rg s' Rg.PWR_THR_COUNT = word (min 0xFFFFFFFF ((rg s Rg.PWR_THR_COUNT).toNat + 1))) ∧
     (bit (rg s Rg.PWR_STAT) 16 = true → 10 * iest < 9 * thrLimit s →
       ∃ s', exec (.throttleEnd iest us) s = .next s' ∧ s' = { s with regs := s'.regs, evq := s'.evq } ∧
         MemKept s s' ∧ RegsKept [Rg.PWR_STAT, Rg.PWR_THR_TIME] s s' ∧ bit (rg s' Rg.PWR_STAT) 16 = false ∧
         bits (rg s' Rg.PWR_STAT) 11 0 = iest ∧
         rg s' Rg.PWR_THR_TIME = word (min 0xFFFFFFFF ((rg s Rg.PWR_THR_TIME).toNat + us)))) ∧
   (∀ (rail : Nat) (status : BitVec 16) (s : State), manageable s = true → rail < 9 → status ≠ 0 →
     ∃ s', exec (.pmbAlert rail status) s = .next s' ∧ s' = { s with regs := s'.regs, evq := s'.evq } ∧ MemKept s s' ∧
       RegsKept (hdrRegs Pg.PWR) s s' ∧ rg s' (Rg.ERR_COUNT Pg.PWR) = word (min 0xFFFFFFFF ((rg s (Rg.ERR_COUNT Pg.PWR)).toNat + 1)))) ∧
  ((∀ s : State, restable s → manageable s = true →
     (∀ mv after, bits (rg s Rg.AVS_VMAX) 9 0 + 25 < mv → ∃ s', exec (.overVoltage mv after none) s = .next s' ∧ Rested 3 s s' ∧
       bit (rg s' Rg.PLUMB_STAT) 28 = true ∧ bit (rg s' Rg.PLUMB_REST_PEND) 3 = true ∧
       bits (rg s' Rg.PLUMB_VCORE) 15 0 = min 0xFFFF after) ∧
     (∀ sensor t, (115 : Int) ≤ t → t < 128 → sensor < 64 → ∃ s', exec (.overTemp sensor t none) s = .next s' ∧ Rested 4 s s' ∧
       bit (rg s' Rg.PLUMB_REST_PEND) 4 = true ∧ rg s' Rg.PLUMB_TJ = word (sensor * 256 + t.toNat)) ∧
     (∃ s', exec (.supplyFault none) s = .next s' ∧ Rested 11 s s' ∧ bit (rg s' Rg.PLUMB_REST_PEND) 11 = true) ∧
     (s.hbMiss = false → ∃ s', exec (.heartbeatTimeout none) s = .next s' ∧ Rested 6 s s' ∧ s'.hbMiss = true) ∧
     (∃ s', exec (.plumbLockstepMismatch none) s = .next s' ∧ Rested 10 s s' ∧ bit (rg s' Rg.PLUMB_STAT) 29 = false)) ∧
   (∀ (h : CmdHit) (i : Option CmdHit → Instr) (s t : State), manageable s = true →
     ((∃ mv after, bits (rg s Rg.AVS_VMAX) 9 0 + 25 < mv ∧ i = fun h => .overVoltage mv after h) ∨ (∃ sensor tj, (115 : Int) ≤ tj ∧ i = fun h => .overTemp sensor tj h) ∨
       (i = fun h => .supplyFault h) ∨ (s.hbMiss = false ∧ i = fun h => .heartbeatTimeout h) ∨ (i = fun h => .plumbLockstepMismatch h) ∨
       ∃ b, b < 132 ∧ resetting s (benchDom b) = true ∧ inLarger s (benchDom b) = false ∧ i = fun h => .resetEscalation (benchDom b) h) →
     exec (i none) s = .next t → manageable t = true → exec (i (some h)) s = .next (refuse h.page h.off rsPlumb h.v t)) ∧
   (∀ s : State, manageable s = true →
     (∀ sensor t, t ≤ (100 : Int) → ∃ s', exec (.overTempCleared sensor t) s = .next s' ∧ s' = { s with regs := s'.regs } ∧ MemKept s s' ∧
       RegsKept [Rg.PLUMB_TJ, Rg.PLUMB_REST_PEND] s s' ∧ bit (rg s' Rg.PLUMB_REST_PEND) 4 = false) ∧
     (∃ s', exec .supplyRestored s = .next s' ∧ s' = { s with regs := s'.regs } ∧ MemKept s s' ∧
       RegsKept [Rg.PLUMB_REST_PEND] s s' ∧ bit (rg s' Rg.PLUMB_REST_PEND) 11 = false) ∧
     (s.hbMiss = true → resetting s 0x4000 = false → ∃ s', exec (.heartbeatTimeout none) s = .next s' ∧ ResetAsked 0x4000 s s') ∧
     (gauTrusted s = true → ∃ s', exec .xtalLoss s = .next s' ∧ Doubted 7 s s' ∧ bit (rg s' Rg.PLUMB_STAT) 30 = true) ∧
     (∃ s', exec .pwrgdLoss s = .next s' ∧ s'.powerLost = true ∧ s'.restN = true ∧ s'.frozen = true ∧ s'.mem = [] ∧
       s'.bootNo = s.bootNo + 1 ∧ bit (rg s' Rg.PLUMB_STAT) 30 = true ∧ s'.benches = s.benches ∧ s'.chip = s.chip ∧
       ∀ x, x < 16 → linkState s' x = if linkState s x = linkUp then linkMuted else linkState s x)) ∧
   (∀ (v : Word) (s : State), PageOpen Pg.PLUMB s →
     let ok := bits v 15 0 = (bits (rg s Rg.PLUMB_HB_LAST) 15 0 + 1) % 2 ^ 16
     (ok → ∃ s', exec (.heartbeatWrite v) s = .next s' ∧ s' = { s with regs := s'.regs, hbMiss := false } ∧ MemKept s s' ∧
       RegsKept [Rg.PLUMB_HB_LAST, Rg.PLUMB_REST_PEND] s s' ∧ rg s' Rg.PLUMB_HB_LAST = word (bits v 15 0) ∧
       bit (rg s' Rg.PLUMB_REST_PEND) 6 = false) ∧
     (¬ ok → ∃ s', exec (.heartbeatWrite v) s = .next s' ∧ s' = { s with regs := s'.regs, evq := s'.evq } ∧ MemKept s s' ∧
       RegsKept [Rg.REFUSED Pg.PLUMB] s s')))

/-- PORST_ASSERT leaves the part OFF with its fuses alone; PORST_RELEASE samples BOOTSEL and runs the boot chain; CALIB_COMPLETE, once
every stack is trained, clears memory, maps the first 128 benches that pass, and with every stack trained, the gauge LOCKED and no cause of rest active the chip is READY, or in TEST
where BOOTSEL asks for it (R10, R13, R213, R400, R401, Table 15-3). -/
def Obligations.ThePartBootsAndCalibrates : Prop :=
  (∀ s : State, ∃ s', exec .porstAssert s = .next s' ∧ s'.chip = .off ∧ s'.pending = s.pending ∧ s'.ownerKeys = s.ownerKeys ∧
    s'.mem = [] ∧ s'.benches = [] ∧ s'.evq = [] ∧
    ∀ a, rg s' a = if regCls a = 0x29 ∧ 0x40 ≤ regOff a then rg s a else regReset a) ∧
  (∀ (sel : BitVec 2) (r : BootRes) (s : State), s.chip = .off → ∃ s', exec (.porstRelease sel r) s = .next s' ∧ s'.bootsel = sel.toNat ∧
    s'.restN = false ∧ s'.gauge = 0 ∧ (s'.chip = .calib ∧ sel ≠ 3 ∨
      s'.chip = .boot ∧ bit (rg s' Rg.BOOT_STAT) 31 = true ∧ bit (rg s' Rg.PLUMB_STAT) 30 = true)) ∧
  (∀ (fails : List Nat) (s : State), s.chip = .calib → s.resets = [] →
    let good := (List.range 132).filter fun b => !benchFused s b && !fails.contains b
    ∃ s', exec (.calibComplete fails) s = .next s' ∧ s'.benchMap = good.take 128 ∧
      (∀ b, b < 132 → blkState s' (Pg.BENCH b) = if b ∈ good.take 128 then 2 else if b ∈ good then 6 else 0) ∧
      ((∀ j, j < 8 → stackState s j = 0) → gauState s = gauLocked → 128 ≤ good.length →
        (∀ c, c < 12 → bit (rg s Rg.PLUMB_REST_PEND) c = false) → s'.chip = if s.bootsel = 2 then .test else .ready) ∧
      (good.length < 128 ∨ gauState s ≠ gauLocked ∨ (∃ j, j < 8 ∧ stackState s j ≠ 0) → s'.chip = .calib) ∧
      let clears := (∀ j, j < 8 → stackState s j = 0) ∧ bit (rg s (Rg.JMC_STAT 0)) 0 = false
      ((∀ c, c < 12 → bit (rg s Rg.PLUMB_REST_PEND) c = false) → s'.stepSt = s.stepSt ∧
        (clears → s'.mem = [] ∧ s'.memBad = [] ∧ s'.bootNo = s.bootNo + 1 ∧ ∀ j, j < 8 → bit (rg s' (Rg.JMC_STAT j)) 0 = true) ∧
        (¬ clears → s'.mem = s.mem ∧ s'.bootNo = s.bootNo)))

/-! ### Management, events and telemetry (chapter 15) -/

/-- STATE_REQUEST of a transition that Table 15-4 accepts moves its block, a bench dropping its tickets, or marks the change as under way;
any other is refused;
STATE_REQUEST_TIMEOUT ends a change that was not made and reports it (R379). The management port: a frame that fits its ring is stored,
with its length and the gauge of its arrival, and one that does not is dropped and counted; the transmit ring sends its next buffer and hands it back;
STATUS_REQ is answered, also when it arrives as a frame (R390, R391). -/
def Obligations.BlockStatesAndFrames : Prop :=
  (∀ (page : Nat) (s : State), regInst page < pageCount (regCls page) → regOff page = 0 → page < 2 ^ 26 →
     let bp := blockPage page
     (∀ (v : Word) (done : Bool), PageOpen page s →
       (bit (rg s (Rg.STATE bp)) 31 = false → requestOk s bp (blkState s bp) (bits v 3 0) = true →
         ∃ s', exec (.stateRequest page v done) s = .next s' ∧
           s' = { s with regs := s'.regs, evq := s'.evq, benches := s'.benches } ∧ MemKept s s' ∧
           (∀ b, bench s' b = if done = true ∧ regCls bp = 1 ∧ regInst bp = b then { bench s b with tickets := [] } else bench s b) ∧
           RegsKept [Rg.STATE_REQ page, Rg.STATE bp, Rg.BENCH_TRY_INJ (regInst bp)] s s' ∧
           rg s' (Rg.STATE_REQ page) = word (bits v 3 0) ∧
           (done = true → blkState s' bp = bits v 3 0) ∧
           (done = false → blkState s' bp = blkState s bp ∧ bit (rg s' (Rg.STATE bp)) 31 = true)) ∧
       (bit (rg s (Rg.STATE bp)) 31 = true ∨ requestOk s bp (blkState s bp) (bits v 3 0) = false →
         ∃ s', exec (.stateRequest page v done) s = .next s' ∧ s' = { s with regs := s'.regs, evq := s'.evq } ∧ MemKept s s' ∧
           RegsKept [Rg.REFUSED page] s s')) ∧
     (bit (rg s (Rg.STATE bp)) 31 = true → ∃ s', exec (.stateRequestTimeout page) s = .next s' ∧
       s' = { s with regs := s'.regs, evq := s'.evq } ∧ MemKept s s' ∧ RegsKept (Rg.STATE bp :: hdrRegs bp) s s' ∧
       bit (rg s' (Rg.STATE bp)) 31 = false ∧ blkState s' bp = blkState s bp)) ∧
  ((∀ (f : Frame) (t : Nat) (s : State), manageable s = true → ¬ (f.etype = commandEtype ∧ f.dst = stationMac s) →
     let bs := frameBytes f
     let d := descAt rxRing (rg s Rg.MGP_RX_WR) s
     let a := descBuffer s d
     let g := (gaugeTo (t / 10) s).gauge
     let room := ringOn rxRing s = true ∧ ringUsed s Rg.MGP_RX_WR Rg.MGP_RX_RD < ringSize rxRing s ∧ rangeAny d 32 (memUe s) = false ∧
       descOwned s d = true ∧ unitWriteOk s a bs.length = true ∧ unitWriteOk s d 32 = true
     (f.crcOk = true → bs.length ≤ 2048 → room → ∃ s', exec (.mgpFrameReceive f t) s = .next s' ∧
       s' = { s with regs := s'.regs, memBad := s'.memBad, gauge := g,
                     mem := (memPutAll (d + 8) (descTail bs.length 0 t { s with gauge := g }) (memPutAll a bs s)).mem } ∧
       RegsKept [Rg.MGP_RX_WR] s s' ∧ rg s' Rg.MGP_RX_WR = rg s Rg.MGP_RX_WR + 1 ∧
       ∀ x, (∀ i, i < bs.length → memLoc s x ≠ memLoc s (a + i)) → (∀ i, i < 24 → memLoc s x ≠ memLoc s (d + 8 + i)) →
         memByte s' x = memByte s x) ∧
     (f.crcOk = false ∨ 2048 < bs.length ∨ ¬ room → ∃ s', exec (.mgpFrameReceive f t) s = .next s' ∧
       s' = { s with regs := s'.regs, gauge := g } ∧
       MemKept s s' ∧ RegsKept [Rg.MGP_DROP] s s' ∧ rg s' Rg.MGP_DROP = word (min 0xFFFFFFFF ((rg s Rg.MGP_DROP).toNat + 1)))) ∧
   (∀ (f : Frame) (t : Nat) (s : State), manageable s = true → f.etype = commandEtype → f.dst = stationMac s → f.crcOk = true →
     f.pay.getD 0 0 = 3 → exec (.mgpFrameReceive f t) s =
       exec (.statusReq (BitVec.ofNat 16 ((f.pay.getD 2 0).toNat + 256 * (f.pay.getD 3 0).toNat)) f.src) (gaugeTo (t / 10) s)) ∧
   (∀ (tag : BitVec 16) (src : Nat) (s : State), manageable s = true → ∃ s', exec (.statusReq tag src) s = .next s' ∧
     s' = { s with mgpTx := s'.mgpTx } ∧ s'.mgpTx.take 14 = (leBytes 6 src).reverse ++ (leBytes 6 (stationMac s)).reverse ++ [0x88, 0xB5] ∧
     (s'.mgpTx.drop 14).take 4 = [4, 1] ++ leBytes 2 tag.toNat ∧
     (s'.mgpTx.drop 18).take 4 = leBytes 4 (chipCode s.chip * 2 ^ 28 + bits (rg s Rg.PLUMB_REST_CAUSE) 7 0 * 2 ^ 16)) ∧
   (∀ (t : Nat) (s : State),
     let d := descAt txRing (rg s Rg.MGP_TX_RD) s
     let n := leNat (memBytes s (d + 8) 2)
     let a := descBuffer s d
     manageable s = true → ringOn txRing s = true → rg s Rg.MGP_TX_WR ≠ rg s Rg.MGP_TX_RD → rangeAny d 32 (memUe s) = false →
     descOwned s d = true → unitWriteOk s d 32 = true → a + n ≤ memEnd s → rangeAny a n (memUe s) = false →
     ∃ s', exec (.mgpTransmit t) s = .next s' ∧
       s' = { s with regs := s'.regs, memBad := s'.memBad, mgpTx := memBytes s a n, gauge := (gaugeTo (t / 10) s).gauge,
                     mem := (memPutAll (d + 8) (descTail n 0 t (gaugeTo (t / 10) s)) s).mem } ∧
       RegsKept [Rg.MGP_TX_RD] s s' ∧ rg s' Rg.MGP_TX_RD = rg s Rg.MGP_TX_RD + 1 ∧ MemKeptBut (d + 8) 24 s s'))

/-- EVENT_EMIT: the least event that waits leaves with the next number: in RING mode its record is stored at the write counter, which goes up,
or is lost where the ring is full; a write that does not complete OK loses it too, and falls back to DIRECT; in DIRECT mode its source becomes pending. EVC_COAL_TIMEOUT makes a ring with an unread record due
(R385 to R388). TELEMETRY_SAMPLE takes every stack's temperature and the hottest sensor's, and reads the rails; at a selected mark it
numbers its record, which is stored, or lost, while TELEM is enabled (R389). -/
def Obligations.EventsLeaveInOrderAndTelemetryIsSampled : Prop :=
  ((∀ (e : Ev) (s : State), nextEvent s = some e →
     let seq := rg s Rg.EVC_SEQ
     let a := evcBase s + 32 * ((rg s Rg.EVC_WR).toNat % evcSize s)
     let full := evcSize s ≤ ringUsed s Rg.EVC_WR Rg.EVC_RD
     e ∈ s.evq ∧ (∀ x, x ∈ s.evq → x ≠ e → evBefore s.gauge.toNat x e = false) ∧
     (evcDirect s = true → ∃ s', exec .eventEmit s = .next s' ∧ MemKept s s' ∧
       s' = { s with regs := s'.regs, evq := s.evq.erase e, evcPend := s'.evcPend } ∧ RegsKept [Rg.EVC_SEQ, Rg.EVC_DDROP] s s' ∧
       rg s' Rg.EVC_SEQ = seq + 1 ∧ rg s' Rg.EVC_DDROP = word (min 0xFFFFFFFF ((rg s Rg.EVC_DDROP).toNat + 1)) ∧
       (evSev e.code < 2 → s'.evcPend = s.evcPend)) ∧
     (evcDirect s = false → full → ∃ s', exec .eventEmit s = .next s' ∧ MemKept s s' ∧
       s' = { s with regs := s'.regs, evq := s.evq.erase e } ∧ RegsKept [Rg.EVC_SEQ, Rg.EVC_LOST] s s' ∧
       rg s' Rg.EVC_SEQ = seq + 1 ∧ rg s' Rg.EVC_LOST = word (min 0xFFFFFFFF ((rg s Rg.EVC_LOST).toNat + 1))) ∧
     (evcDirect s = false → ¬ full → unitWriteOk s a 32 = true → parHits s a 32 = [] → ∃ s', exec .eventEmit s = .next s' ∧
       s' = { s with regs := s'.regs, evq := s.evq.erase e, mem := (memPutAll a (evRecord e seq.toNat) s).mem, memBad := s'.memBad,
                     unread := s.unread ++ [(s.gauge.toNat, evSev e.code)] } ∧
       RegsKept [Rg.EVC_SEQ, Rg.EVC_WR] s s' ∧ MemKeptBut a 32 s s' ∧ (evRecord e seq.toNat).length = 32 ∧
       rg s' Rg.EVC_SEQ = seq + 1 ∧ rg s' Rg.EVC_WR = rg s Rg.EVC_WR + 1) ∧
     (evcDirect s = false → ¬ full → unitWriteOk s a 32 = false ∨ parHits s a 32 ≠ [] → ∃ s', exec .eventEmit s = .next s' ∧
       MemKeptBut a 32 s s' ∧ rg s' Rg.EVC_SEQ = seq + 1 ∧ rg s' Rg.EVC_WR = rg s Rg.EVC_WR ∧ evcDirect s' = true ∧
       rg s' Rg.EVC_LOST = word (min 0xFFFFFFFF ((rg s Rg.EVC_LOST).toNat + 1)))) ∧
   (∀ (t sev : Nat) (l : List (Nat × Nat)) (s : State), evcDirect s = false → unreadOf s = (t, sev) :: l → t + coalTime s < 2 ^ 64 →
     ∃ s', exec .evcCoalTimeout s = .next s' ∧ s' = { s with gauge := s'.gauge } ∧ s.gauge ≤ s'.gauge ∧
       t + coalTime s ≤ s'.gauge.toNat ∧ evcDue s' = true)) ∧
  (∀ (q : TelSample) (s : State), sampleOk q = true → manageable s = true → q.g % 2 ^ 20 = 0 →
     let on := s.chip ≠ .nap ∧ q.g / 2 ^ 20 % 2 ^ bits (rg s Rg.TEL_CTRL) 26 24 = 0 ∧ bit (rg s Rg.TEL_CTRL) 31 = true
     ∃ s', exec (.telemetrySample q) s = .next s' ∧
       s' = { s with regs := s'.regs, evq := s'.evq, gauge := (gaugeTo q.g s).gauge, mem := s'.mem, memBad := s'.memBad, free := s'.free,
                     parAt := s'.parAt, cause := s'.cause, telSeq := s'.telSeq, telBase := s'.telBase, throttled := s'.throttled } ∧
       RegsKept ([Rg.PLUMB_TJ, Rg.PWR_PMB_RETRY, Rg.AVS_RETRY, Rg.PLUMB_REST_PEND, Rg.TEL_WR, Rg.TEL_LOST] ++
         (List.range 8).map Rg.JST_STAT ++ hdrRegs Pg.PWR ++ hdrRegs Pg.AVS ++ parRegs) s s' ∧
       (∀ j, j < 8 → stackTemp s' j = q.dies.getD j 0) ∧
       (on → s'.telSeq = s.telSeq + 1 ∧ (rg s' Rg.TEL_WR = rg s Rg.TEL_WR + 1 ∧ rg s' Rg.TEL_LOST = rg s Rg.TEL_LOST ∨
         rg s' Rg.TEL_WR = rg s Rg.TEL_WR ∧ (s.parAt = [] → MemKept s s') ∧
           rg s' Rg.TEL_LOST = word (min 0xFFFFFFFF ((rg s Rg.TEL_LOST).toNat + 1)))) ∧
       (¬ on → MemKept s s' ∧ s'.telSeq = s.telSeq ∧ rg s' Rg.TEL_WR = rg s Rg.TEL_WR ∧ rg s' Rg.TEL_LOST = rg s Rg.TEL_LOST))

/-- Commands of the security block, where none of its rules refuses them, complete with the code of the first check that fails, or with OK and
their effect: an image in its slot, a fuse, a key, an identity or an attestation in memory (R399, R405 to R412). -/
def Obligations.SecurityCommandsComplete : Prop :=
  (∀ (tag : BitVec 16) (v : Verdict) (s : State), PageOpen Pg.SEC s →
    (lowest (verifyLoadBad s) = none →
      let f := imgAt s (bits (secArg0 s) 7 0) (secAddr s) (secLen s) v
      ∃ s', exec (.verifyLoad tag v) s = .next s' ∧ MemKept s s' ∧ rg s' Rg.SEC_STAT = secWord 0x01 tag (imgCode s f) ∧
        fwUnit s' (loadUnit s) = (fwUnit s (loadUnit s)).setSlot (loadSlot s) (if imgCode s f = 0 then some f.info else none) ∧
        (∀ u, u ≠ loadUnit s → fwUnit s' u = fwUnit s u) ∧ (imgCode s f = 0 → RegsKept [Rg.SEC_STAT] s s' ∧ s'.evq = s.evq)) ∧
    (lowest (patVerifyBad s) = none →
      let f := imgAt s 8 (secAddr s) (secLen s) v
      ∃ s', exec (.patVerify tag v) s = .next s' ∧ MemKept s s' ∧ rg s' Rg.SEC_STAT = secWord 0x02 tag (imgCode s f) ∧
        (imgCode s f = 0 → s'.patImg = some f.info ∧ rg s' Rg.SEC_PAT_REC_LO = word (secAddr s) ∧
          bit (rg s' Rg.SEC_PAT_REC_HI) 31 = true ∧ rg s' Rg.SEC_PAT_REC_LEN = word (secLen s)) ∧
        (imgCode s f ≠ 0 → s'.patImg = s.patImg ∧ rg s' Rg.SEC_PAT_REC_HI = rg s Rg.SEC_PAT_REC_HI))) ∧
  (∀ (tag : BitVec 16) (s : State), PageOpen Pg.SEC s →
    (let c := bits (secArg0 s) 7 0
     let n := bits (secArg0 s) 15 8
     c ≤ 15 → n ≤ 64 → arbOf s c < n → runsAtLeast s c n = true → ∃ s', exec (.arbAdvance tag) s = .next s' ∧ MemKept s s' ∧
      s' = { s with regs := s'.regs, evq := s'.evq, fw := s'.fw } ∧ RegsKept [Rg.SEC_STAT, Rg.FUSE_ARBn c] s s' ∧ arbOf s' c = n ∧
      rg s' Rg.SEC_STAT = secWord 0x03 tag 0) ∧
    (secFits s 1984 = true → unitWriteOk s (secAddr s) 1984 = true → ∃ s', exec (.identity tag) s = .next s' ∧
      s' = { s with regs := s'.regs, memBad := s'.memBad,
                    mem := (memPutAll (secAddr s) ((List.range 1984).map Config.identityKey) s).mem } ∧
      RegsKept [Rg.SEC_STAT] s s' ∧ rg s' Rg.SEC_STAT = secWord 0x05 tag 0 ∧ MemKeptBut (secAddr s) 1984 s s') ∧
    (secFits s 4608 = true → srcUe s (secAddr s + 8) 64 = false → unitWriteOk s (secAddr s) 4608 = true →
      ∃ s', exec (.attest tag) s = .next s' ∧
        s' = { s with regs := s'.regs, evq := s'.evq, mem := s'.mem, memBad := s'.memBad, free := s.free + 1 } ∧
        RegsKept [Rg.SEC_STAT] s s' ∧ rg s' Rg.SEC_STAT = secWord 0x04 tag 0 ∧
        ∀ x, (∀ i, i < 4608 → i < 8 ∨ 72 ≤ i → memLoc s x ≠ memLoc s (secAddr s + i)) → memByte s' x = memByte s x) ∧
    (let k := bits (secArg0 s) 1 0
     ownerSet s k = false → (∀ i, s.cabImg = some i → i.owner = true → s.chip = .test) → secFits s 48 = true →
     srcUe s (secAddr s) 48 = false → ∃ s', exec (.progOwner tag) s = .next s' ∧ MemKept s s' ∧
      s' = { s with regs := s'.regs, evq := s'.evq, ownerKeys := spIns k (memBytes s (secAddr s) 48) s.ownerKeys } ∧
      RegsKept [Rg.SEC_STAT, Rg.FUSE_KEYS] s s' ∧ rg s' Rg.FUSE_KEYS = rg s Rg.FUSE_KEYS ||| word (2 ^ (8 + k)) ∧
      rg s' Rg.SEC_STAT = secWord 0x06 tag 0) ∧
    (let owner := bit (secArg0 s) 8
     let k := bits (secArg0 s) 1 0
     (owner = true → ownerSet s k = true) → (∀ i, i ∈ liveImages s → ¬ (i.owner = owner ∧ i.key = k)) →
     ∃ s', exec (.revoke tag) s = .next s' ∧ s' = { s with regs := s'.regs, evq := s'.evq } ∧ MemKept s s' ∧
      RegsKept [Rg.SEC_STAT, Rg.FUSE_KEYS] s s' ∧ keyRevoked s' owner k = true ∧ rg s' Rg.SEC_STAT = secWord 0x07 tag 0))

/-- DBG_UNLOCK replaces the nonce whatever its verdict; a token that checks blows one unlock fuse, opens its scopes, takes the contents of
memory and resets the chip, and any other is answered with its code. The flash port moves its bytes between flash and memory, and reports
a failure (R414, R415, R419). -/
def Obligations.DebugUnlockAndTheFlashPort : Prop :=
  (∀ (tag : BitVec 16) (v : Verdict) (s : State), PageOpen Pg.SEC s → stepHeld s = false → secFits s 5408 = true →
    (tokenCode s (secAddr s) v = 0 → resetting s 0 = false → ∃ s', exec (.dbgUnlock tag v) s = .next s' ∧ s'.chip = .boot ∧ s'.mem = [] ∧
      s.bootNo < s'.bootNo ∧ s'.benches = [] ∧ s'.splines = [] ∧
      bits (rg s' Rg.FUSE_DBG_COUNT) 5 0 = bits (rg s Rg.FUSE_DBG_COUNT) 5 0 + 1 ∧
      rg s' Rg.DBG_STAT = rg s Rg.DBG_STAT ||| word (memNat s (secAddr s + 0x28) 4 % 8)) ∧
    (tokenCode s (secAddr s) v ≠ 0 → ∃ s', exec (.dbgUnlock tag v) s = .next s' ∧ MemKept s s' ∧ s'.chip = s.chip ∧
      s'.benches = s.benches ∧ s'.free = s.free + 2 ∧ rg64 s' (Rg.DBG_NONCEn 0) = Config.freeWord s.free ∧
      rg64 s' (Rg.DBG_NONCEn 2) = Config.freeWord (s.free + 1) ∧ rg s' Rg.FUSE_DBG_COUNT = rg s Rg.FUSE_DBG_COUNT ∧
      rg s' Rg.DBG_STAT = rg s Rg.DBG_STAT ∧ rg s' Rg.SEC_STAT = secWord 0x08 tag (tokenCode s (secAddr s) v))) ∧
  (∀ (data : List Byte) (fail : Bool) (s : State), PageOpen Pg.BOOT s → s.chip ≠ .boot →
    (fail = false → xspiFits s = true → unitWriteOk s (xspiMem s) (xspiLen s) = true →
      ∃ s', exec (.xspiRead data fail) s = .next s' ∧ rg s' Rg.BOOT_XSPI_CTL = 0x40000000 ∧ RegsKept [Rg.BOOT_XSPI_CTL] s s' ∧
        s' = { s with regs := s'.regs, memBad := s'.memBad, mem := (memPutAll (xspiMem s) (data.take (xspiLen s)) s).mem } ∧
        MemKeptBut (xspiMem s) (xspiLen s) s s') ∧
    (fail = true → ∃ s', exec (.xspiRead data fail) s = .next s' ∧ rg s' Rg.BOOT_XSPI_CTL = 0x60000000 ∧
      s' = { s with regs := s'.regs } ∧ MemKept s s' ∧ RegsKept [Rg.BOOT_XSPI_CTL] s s') ∧
    (xspiFits s = true → srcUe s (xspiMem s) (xspiLen s) = false → ∃ s', exec (.xspiProgram fail) s = .next s' ∧ MemKept s s' ∧
      s' = { s with regs := s'.regs, xspiOut := memBytes s (xspiMem s) (xspiLen s) } ∧ RegsKept [Rg.BOOT_XSPI_CTL] s s' ∧
      rg s' Rg.BOOT_XSPI_CTL = if fail then 0x60000000 else 0x40000000) ∧
    (∃ s', exec (.xspiErase fail) s = .next s' ∧ s' = { s with regs := s'.regs } ∧ MemKept s s' ∧ RegsKept [Rg.BOOT_XSPI_CTL] s s' ∧
      rg s' Rg.BOOT_XSPI_CTL = if fail then 0x60000000 else 0x40000000))

/-! ### Register access (R7 to R10, R42, R375, R381) -/

/-- A read of the low word of a pair latches its high word, and a later read of the high word, whatever has happened to the block meanwhile,
returns the value latched, so that both show one moment (R8). -/
def Obligations.PairsAreReadAtomically : Prop :=
  ∀ (a : Nat) (s : State), a < 2 ^ 26 → manageable s = true → pairLow a = true → (rowAt a).isSome = true → (rowAt (a + 4)).isSome = true →
    spFind a s.latch = none →
    ∃ s', exec (.lowWordLatch a 4) s = .next s' ∧ s'.rdata = view s a ∧
      ∀ u : State, manageable u = true → u.latch = s'.latch →
        ∃ u', exec (.lowWordLatch (a + 4) 4) u = .next u' ∧ u'.rdata = view s (a + 4)

/-- A read of a register answers what it shows and clears its read-to-clear fields, and no other; a read of another width reads 0 and is
recorded as refused; one outside the management space is an access fault (R7, R10, R375). REGISTER_WRITE of a register whose fields are
stored, where no rule refuses it, sets the fields the cabinet writes, clears those that a 1 clears, and keeps every other bit and
register; a refused one changes nothing but the record of its refusal, with the lowest of its reasons (R9, R10, R377). -/
def Obligations.ReadsAndWritesTouchTheirFieldsAlone : Prop :=
  (∀ (a width : Nat) (s : State), manageable s = true →
     (2 ^ 26 ≤ a → exec (.readToClear a width) s = .next { s with cabFault := true }) ∧
     (a < 2 ^ 26 → widthBad a width = true → ∃ s', exec (.readToClear a width) s = .next s' ∧ s'.rdata = 0 ∧ MemKept s s' ∧
       s' = { s with regs := s'.regs, evq := s'.evq, rdata := 0, cabFault := false } ∧ RegsKept [Rg.REFUSED (refusalPage a)] s s' ∧
       (bit (rg s (Rg.REFUSED (refusalPage a))) 31 = false →
         rg s' (Rg.REFUSED (refusalPage a)) = word (0x80000000 + 4 * 0x10000 + regOff a))) ∧
     ∀ r, a < 2 ^ 26 → widthBad a width = false → rowAt a = some r → spFind a s.latch = none →
       ∃ s', exec (.readToClear a width) s = .next s' ∧ MemKept s s' ∧ RegsKept [a] s s' ∧
         s' = { s with regs := s'.regs, latch := s'.latch, rdata := s'.rdata, cabFault := false, evcPend := s'.evcPend, free := s'.free } ∧
         (regCls a ≠ 2 → a ≠ Rg.MGP_STAT → s'.rdata = view s a) ∧ rg s' a = rg s a &&& ~~~(word r.rc) ∧ (r.rc = 0 → s'.regs = s.regs)) ∧
  (∀ (a : Nat) (v : Word) (r : RegRow) (s : State), a < 2 ^ 26 → a % 4 = 0 → rowAt a = some r → PageOpen (regPage a) s →
     actWrite a r v { s with cabFault := false } = none →
     (lowest (writeBad a r v s) = none →
       ∃ s', exec (.registerWrite a 4 v) s = .next s' ∧ RegsKept (mirrors a) s s' ∧
         (∀ x, x ∈ mirrors a → rg s' x = ((rg s x &&& ~~~(word (r.rw ||| r.rwl))) ||| (v &&& word (r.rw ||| r.rwl)))
           &&& ~~~(v &&& word r.w1c)) ∧
         s' = { s with regs := s'.regs, latch := s'.latch, evcPend := s'.evcPend, ringSet := s'.ringSet, unread := s'.unread,
                       cabFault := false }) ∧
     (∀ k, lowest (writeBad a r v s) = some k → ∃ s', exec (.registerWrite a 4 v) s = .next s' ∧ MemKept s s' ∧
       s' = { s with regs := s'.regs, evq := s'.evq, cabFault := false } ∧ RegsKept [Rg.REFUSED (regPage a)] s s' ∧
       (bit (rg s (Rg.REFUSED (regPage a))) 31 = false →
         rg s' (Rg.REFUSED (regPage a)) = word (0x80000000 + k * 0x10000 + regOff a))))

/-- While a step is OPEN, RUN or CLOSE, a write of the witness configuration is refused and changes nothing but the record of its refusal, so
that a configuration holds for whole steps (R42). -/
def Obligations.WitnessConfigurationIsFixedInAStep : Prop :=
  ∀ (a width : Nat) (v : Word) (s : State), stepLive s = true → PageOpen Pg.SEALU s →
    a ∈ [Rg.SEAL_WIT_CTRL, Rg.SEAL_WIT_OPMATCH, Rg.SEAL_WIT_OPMASK, Rg.SEAL_WRING_BASE_LO, Rg.SEAL_WRING_BASE_HI] →
    ∃ s', exec (.registerWrite a width v) s = .next s' ∧ s' = { s with regs := s'.regs, evq := s'.evq, cabFault := false } ∧
      RegsKept [Rg.REFUSED Pg.SEALU] s s' ∧ MemKept s s' ∧
      (bit (rg s (Rg.REFUSED Pg.SEALU)) 31 = false → rg s' (Rg.REFUSED Pg.SEALU) =
        word (0x80000000 + (if widthBad a width then rsWidth else rsState) * 0x10000 + regOff a))

/-- While a command is in progress, a COMMAND write of any opcode starts none: it is refused, and nothing but the record of its refusal
changes (R381). -/
def Obligations.OneCommandAtATime : Prop :=
  ∀ (v : Word) (s : State), cmdBusy s = true → PageOpen Pg.CHIP s →
    ∃ s' k, exec (.registerWrite (Pg.CHIP + 0x040) 4 v) s = .next s' ∧ s' = { s with regs := s'.regs, evq := s'.evq, cabFault := false } ∧
      MemKept s s' ∧ RegsKept [Rg.REFUSED Pg.CHIP] s s' ∧ k ≤ rsBusy ∧
      (bit (rg s (Rg.REFUSED Pg.CHIP)) 31 = false → rg s' (Rg.REFUSED Pg.CHIP) = word (0x80000000 + k * 0x10000 + 0x040))
end

