-- ==== Sys2Proof/Laws/Sparse.lean ====
section
/-! SUPPORT. Laws of sparse data: what a key reads as after each operation, and that each operation keeps the keys rising. -/

namespace Sys2Proof.Machine

variable {α : Type}

/-! ### Reading after writing -/

theorem spFind_spIns (k j : Nat) (v : α) (l : List (Nat × α)) :
    spFind j (spIns k v l) = if j = k then some v else spFind j l := by
  induction l with
  | nil => simp [spIns, spFind]
  | cons e t ih =>
    obtain ⟨k', v'⟩ := e
    by_cases h1 : k < k'
    · simp [spIns, h1, spFind]
    · by_cases h2 : k = k'
      · subst h2; by_cases h3 : j = k <;> simp [spIns, spFind, h3]
      · simp only [spIns, h1, h2, if_false, spFind, ih]
        by_cases h3 : j = k' <;> by_cases h4 : j = k <;> simp_all

theorem spFind_spDel (k j : Nat) (l : List (Nat × α)) :
    spFind j (spDel k l) = if j = k then none else spFind j l := by
  induction l with
  | nil => simp [spDel, spFind]
  | cons e t ih =>
    obtain ⟨k', v'⟩ := e
    by_cases h2 : k = k'
    · subst h2; by_cases h3 : j = k <;> simp_all [spDel, spFind]
    · simp only [spDel, h2, if_false, spFind, ih]
      by_cases h3 : j = k' <;> by_cases h4 : j = k <;> simp_all

theorem spGet_spIns (d : α) (k j : Nat) (v : α) (l : List (Nat × α)) :
    spGet d j (spIns k v l) = if j = k then v else spGet d j l := by
  unfold spGet; rw [spFind_spIns]; split <;> rfl

theorem spGet_spDel (d : α) (k j : Nat) (l : List (Nat × α)) :
    spGet d j (spDel k l) = if j = k then d else spGet d j l := by
  unfold spGet; rw [spFind_spDel]; split <;> rfl

/-- A key reads as what was last put there, whatever an unlisted key reads as. -/
theorem spGet_spPut [DecidableEq α] (d : α) (k j : Nat) (v : α) (l : List (Nat × α)) :
    spGet d j (spPut d k v l) = if j = k then v else spGet d j l := by
  unfold spPut
  split
  · rename_i h; rw [spGet_spDel, h]
  · exact spGet_spIns d k j v l

/-! ### Canonical form -/

theorem spSorted_cons (k : Nat) (v : α) (t : List (Nat × α)) :
    spSorted ((k, v) :: t) = true ↔ (∀ e ∈ t, k < e.1) ∧ spSorted t = true := by
  induction t generalizing k v with
  | nil => simp [spSorted]
  | cons e t ih =>
    obtain ⟨k', v'⟩ := e
    simp only [spSorted, Bool.and_eq_true, decide_eq_true_eq]
    constructor
    · rintro ⟨h1, h2⟩
      refine ⟨?_, h2⟩
      intro e he
      rcases List.mem_cons.1 he with rfl | he
      · exact h1
      · exact Nat.lt_trans h1 (((ih k' v').1 h2).1 e he)
    · rintro ⟨h1, h2⟩
      exact ⟨h1 (k', v') (List.mem_cons_self ..), h2⟩

theorem mem_spIns {e : Nat × α} {k : Nat} {v : α} {l : List (Nat × α)} (h : e ∈ spIns k v l) : e = (k, v) ∨ e ∈ l := by
  induction l with
  | nil => simpa [spIns] using h
  | cons f t ih =>
    obtain ⟨k', v'⟩ := f
    simp only [spIns] at h
    split at h
    · simpa using h
    · split at h
      · rcases List.mem_cons.1 h with h | h
        · exact .inl h
        · exact .inr (List.mem_cons_of_mem _ h)
      · rcases List.mem_cons.1 h with h | h
        · exact .inr (h ▸ List.mem_cons_self ..)
        · rcases ih h with h | h
          · exact .inl h
          · exact .inr (List.mem_cons_of_mem _ h)

theorem mem_spDel {e : Nat × α} {k : Nat} {l : List (Nat × α)} (h : e ∈ spDel k l) : e ∈ l := by
  induction l with
  | nil => simp [spDel] at h
  | cons f t ih =>
    obtain ⟨k', v'⟩ := f
    simp only [spDel] at h
    split at h
    · exact List.mem_cons_of_mem _ (ih h)
    · rcases List.mem_cons.1 h with h | h
      · exact h ▸ List.mem_cons_self ..
      · exact List.mem_cons_of_mem _ (ih h)

theorem spSorted_spIns (k : Nat) (v : α) {l : List (Nat × α)} (h : spSorted l = true) : spSorted (spIns k v l) = true := by
  induction l with
  | nil => rfl
  | cons f t ih =>
    obtain ⟨k', v'⟩ := f
    have ht := (spSorted_cons k' v' t).1 h
    simp only [spIns]
    split
    · rename_i hk
      refine (spSorted_cons _ _ _).2 ⟨?_, h⟩
      intro e he
      rcases List.mem_cons.1 he with rfl | he
      · exact hk
      · exact Nat.lt_trans hk (ht.1 e he)
    · split
      · rename_i hk; subst hk
        exact (spSorted_cons _ _ _).2 ht
      · refine (spSorted_cons _ _ _).2 ⟨?_, ih ht.2⟩
        intro e he
        rcases mem_spIns he with rfl | he
        · simp only; omega
        · exact ht.1 e he

theorem spSorted_spDel (k : Nat) {l : List (Nat × α)} (h : spSorted l = true) : spSorted (spDel k l) = true := by
  induction l with
  | nil => rfl
  | cons f t ih =>
    obtain ⟨k', v'⟩ := f
    have ht := (spSorted_cons k' v' t).1 h
    simp only [spDel]
    split
    · exact ih ht.2
    · exact (spSorted_cons _ _ _).2 ⟨fun e he => ht.1 e (mem_spDel he), ih ht.2⟩

theorem spSorted_spPut [DecidableEq α] (d : α) (k : Nat) (v : α) {l : List (Nat × α)} (h : spSorted l = true) :
    spSorted (spPut d k v l) = true := by
  unfold spPut; split
  · exact spSorted_spDel k h
  · exact spSorted_spIns k v h

theorem spSorted_filter (p : Nat × α → Bool) {l : List (Nat × α)} (h : spSorted l = true) : spSorted (l.filter p) = true := by
  induction l with
  | nil => rfl
  | cons f t ih =>
    obtain ⟨k', v'⟩ := f
    have ht := (spSorted_cons k' v' t).1 h
    rw [List.filter_cons]
    split
    · exact (spSorted_cons _ _ _).2 ⟨fun e he => ht.1 e (List.mem_filter.1 he).1, ih ht.2⟩
    · exact ih ht.2

/-- With the keys rising, the value an unlisted key reads as is never listed after a put. -/
theorem noDefault_spPut [DecidableEq α] (d : Nat → α) (k : Nat) (v : α) {l : List (Nat × α)}
    (h : ∀ e ∈ l, e.2 ≠ d e.1) : ∀ e ∈ spPut (d k) k v l, e.2 ≠ d e.1 := by
  intro e he
  unfold spPut at he
  split at he
  · exact h e (mem_spDel he)
  · rename_i hv
    rcases mem_spIns he with rfl | he
    · exact hv
    · exact h e he

end Sys2Proof.Machine
end

