-- ==== Sys2Proof/Laws/State.lean ====
section
/-! SUPPORT. One lemma per field for each update of the state: what a write of a register, a bench, a flow context, a spline or a
memory byte leaves alone, and what it sets. -/

namespace Sys2Proof.Machine

variable (s : State)

/-! ### wr -/

@[simp] theorem wr_pending (a : Nat) (v : Word) : (wr a v s).pending = s.pending := rfl
@[simp] theorem wr_free (a : Nat) (v : Word) : (wr a v s).free = s.free := rfl
@[simp] theorem wr_regs (a : Nat) (v : Word) : (wr a v s).regs = spPut (regReset a) a v s.regs := rfl
@[simp] theorem wr_latch (a : Nat) (v : Word) : (wr a v s).latch = s.latch := rfl
@[simp] theorem wr_rdata (a : Nat) (v : Word) : (wr a v s).rdata = s.rdata := rfl
@[simp] theorem wr_mem (a : Nat) (v : Word) : (wr a v s).mem = s.mem := rfl
@[simp] theorem wr_memBad (a : Nat) (v : Word) : (wr a v s).memBad = s.memBad := rfl
@[simp] theorem wr_bootNo (a : Nat) (v : Word) : (wr a v s).bootNo = s.bootNo := rfl
@[simp] theorem wr_parAt (a : Nat) (v : Word) : (wr a v s).parAt = s.parAt := rfl
@[simp] theorem wr_scrubPos (a : Nat) (v : Word) : (wr a v s).scrubPos = s.scrubPos := rfl
@[simp] theorem wr_scrubWin (a : Nat) (v : Word) : (wr a v s).scrubWin = s.scrubWin := rfl
@[simp] theorem wr_relocOff (a : Nat) (v : Word) : (wr a v s).relocOff = s.relocOff := rfl
@[simp] theorem wr_retired (a : Nat) (v : Word) : (wr a v s).retired = s.retired := rfl
@[simp] theorem wr_intake (a : Nat) (v : Word) : (wr a v s).intake = s.intake := rfl
@[simp] theorem wr_benches (a : Nat) (v : Word) : (wr a v s).benches = s.benches := rfl
@[simp] theorem wr_benchMap (a : Nat) (v : Word) : (wr a v s).benchMap = s.benchMap := rfl
@[simp] theorem wr_gclamps (a : Nat) (v : Word) : (wr a v s).gclamps = s.gclamps := rfl
@[simp] theorem wr_gclampReq (a : Nat) (v : Word) : (wr a v s).gclampReq = s.gclampReq := rfl
@[simp] theorem wr_evq (a : Nat) (v : Word) : (wr a v s).evq = s.evq := rfl
@[simp] theorem wr_chip (a : Nat) (v : Word) : (wr a v s).chip = s.chip := rfl
@[simp] theorem wr_chipPrev (a : Nat) (v : Word) : (wr a v s).chipPrev = s.chipPrev := rfl
@[simp] theorem wr_frozen (a : Nat) (v : Word) : (wr a v s).frozen = s.frozen := rfl
@[simp] theorem wr_gauge (a : Nat) (v : Word) : (wr a v s).gauge = s.gauge := rfl
@[simp] theorem wr_gauAt (a : Nat) (v : Word) : (wr a v s).gauAt = s.gauAt := rfl
@[simp] theorem wr_phase (a : Nat) (v : Word) : (wr a v s).phase = s.phase := rfl
@[simp] theorem wr_trim (a : Nat) (v : Word) : (wr a v s).trim = s.trim := rfl
@[simp] theorem wr_trimAt (a : Nat) (v : Word) : (wr a v s).trimAt = s.trimAt := rfl
@[simp] theorem wr_stepSt (a : Nat) (v : Word) : (wr a v s).stepSt = s.stepSt := rfl
@[simp] theorem wr_stepNo (a : Nat) (v : Word) : (wr a v s).stepNo = s.stepNo := rfl
@[simp] theorem wr_cause (a : Nat) (v : Word) : (wr a v s).cause = s.cause := rfl
@[simp] theorem wr_wsum (a : Nat) (v : Word) : (wr a v s).wsum = s.wsum := rfl
@[simp] theorem wr_marks (a : Nat) (v : Word) : (wr a v s).marks = s.marks := rfl
@[simp] theorem wr_ivMarks (a : Nat) (v : Word) : (wr a v s).ivMarks = s.ivMarks := rfl
@[simp] theorem wr_ivNo (a : Nat) (v : Word) : (wr a v s).ivNo = s.ivNo := rfl
@[simp] theorem wr_childToks (a : Nat) (v : Word) : (wr a v s).childToks = s.childToks := rfl
@[simp] theorem wr_restTest (a : Nat) (v : Word) : (wr a v s).restTest = s.restTest := rfl
@[simp] theorem wr_flows (a : Nat) (v : Word) : (wr a v s).flows = s.flows := rfl
@[simp] theorem wr_splines (a : Nat) (v : Word) : (wr a v s).splines = s.splines := rfl
@[simp] theorem wr_replay (a : Nat) (v : Word) : (wr a v s).replay = s.replay := rfl
@[simp] theorem wr_outDig (a : Nat) (v : Word) : (wr a v s).outDig = s.outDig := rfl
@[simp] theorem wr_l2 (a : Nat) (v : Word) : (wr a v s).l2 = s.l2 := rfl
@[simp] theorem wr_hold (a : Nat) (v : Word) : (wr a v s).hold = s.hold := rfl
@[simp] theorem wr_late (a : Nat) (v : Word) : (wr a v s).late = s.late := rfl
@[simp] theorem wr_swap (a : Nat) (v : Word) : (wr a v s).swap = s.swap := rfl
@[simp] theorem wr_ttabBusy (a : Nat) (v : Word) : (wr a v s).ttabBusy = s.ttabBusy := rfl
@[simp] theorem wr_cabData (a : Nat) (v : Word) : (wr a v s).cabData = s.cabData := rfl
@[simp] theorem wr_cabFault (a : Nat) (v : Word) : (wr a v s).cabFault = s.cabFault := rfl
@[simp] theorem wr_fenced (a : Nat) (v : Word) : (wr a v s).fenced = s.fenced := rfl
@[simp] theorem wr_fencedPl (a : Nat) (v : Word) : (wr a v s).fencedPl = s.fencedPl := rfl
@[simp] theorem wr_resets (a : Nat) (v : Word) : (wr a v s).resets = s.resets := rfl
@[simp] theorem wr_chipTries (a : Nat) (v : Word) : (wr a v s).chipTries = s.chipTries := rfl
@[simp] theorem wr_halted (a : Nat) (v : Word) : (wr a v s).halted = s.halted := rfl
@[simp] theorem wr_restN (a : Nat) (v : Word) : (wr a v s).restN = s.restN := rfl
@[simp] theorem wr_bootsel (a : Nat) (v : Word) : (wr a v s).bootsel = s.bootsel := rfl
@[simp] theorem wr_fw (a : Nat) (v : Word) : (wr a v s).fw = s.fw := rfl
@[simp] theorem wr_cabImg (a : Nat) (v : Word) : (wr a v s).cabImg = s.cabImg := rfl
@[simp] theorem wr_patImg (a : Nat) (v : Word) : (wr a v s).patImg = s.patImg := rfl
@[simp] theorem wr_ownerKeys (a : Nat) (v : Word) : (wr a v s).ownerKeys = s.ownerKeys := rfl
@[simp] theorem wr_restarts (a : Nat) (v : Word) : (wr a v s).restarts = s.restarts := rfl
@[simp] theorem wr_testing (a : Nat) (v : Word) : (wr a v s).testing = s.testing := rfl
@[simp] theorem wr_passed (a : Nat) (v : Word) : (wr a v s).passed = s.passed := rfl
@[simp] theorem wr_hbMiss (a : Nat) (v : Word) : (wr a v s).hbMiss = s.hbMiss := rfl
@[simp] theorem wr_wakeReq (a : Nat) (v : Word) : (wr a v s).wakeReq = s.wakeReq := rfl
@[simp] theorem wr_powerLost (a : Nat) (v : Word) : (wr a v s).powerLost = s.powerLost := rfl
@[simp] theorem wr_throttled (a : Nat) (v : Word) : (wr a v s).throttled = s.throttled := rfl
@[simp] theorem wr_evcPend (a : Nat) (v : Word) : (wr a v s).evcPend = s.evcPend := rfl
@[simp] theorem wr_ringSet (a : Nat) (v : Word) : (wr a v s).ringSet = s.ringSet := rfl
@[simp] theorem wr_unread (a : Nat) (v : Word) : (wr a v s).unread = s.unread := rfl
@[simp] theorem wr_mgpTx (a : Nat) (v : Word) : (wr a v s).mgpTx = s.mgpTx := rfl
@[simp] theorem wr_xspiOut (a : Nat) (v : Word) : (wr a v s).xspiOut = s.xspiOut := rfl
@[simp] theorem wr_telLost (a : Nat) (v : Word) : (wr a v s).telLost = s.telLost := rfl
@[simp] theorem wr_telBase (a : Nat) (v : Word) : (wr a v s).telBase = s.telBase := rfl
@[simp] theorem wr_telSeq (a : Nat) (v : Word) : (wr a v s).telSeq = s.telSeq := rfl

/-! ### setBench -/

@[simp] theorem setBench_pending (b : Nat) (v : Bench) : (setBench b v s).pending = s.pending := rfl
@[simp] theorem setBench_free (b : Nat) (v : Bench) : (setBench b v s).free = s.free := rfl
@[simp] theorem setBench_regs (b : Nat) (v : Bench) : (setBench b v s).regs = s.regs := rfl
@[simp] theorem setBench_latch (b : Nat) (v : Bench) : (setBench b v s).latch = s.latch := rfl
@[simp] theorem setBench_rdata (b : Nat) (v : Bench) : (setBench b v s).rdata = s.rdata := rfl
@[simp] theorem setBench_mem (b : Nat) (v : Bench) : (setBench b v s).mem = s.mem := rfl
@[simp] theorem setBench_memBad (b : Nat) (v : Bench) : (setBench b v s).memBad = s.memBad := rfl
@[simp] theorem setBench_bootNo (b : Nat) (v : Bench) : (setBench b v s).bootNo = s.bootNo := rfl
@[simp] theorem setBench_parAt (b : Nat) (v : Bench) : (setBench b v s).parAt = s.parAt := rfl
@[simp] theorem setBench_scrubPos (b : Nat) (v : Bench) : (setBench b v s).scrubPos = s.scrubPos := rfl
@[simp] theorem setBench_scrubWin (b : Nat) (v : Bench) : (setBench b v s).scrubWin = s.scrubWin := rfl
@[simp] theorem setBench_relocOff (b : Nat) (v : Bench) : (setBench b v s).relocOff = s.relocOff := rfl
@[simp] theorem setBench_retired (b : Nat) (v : Bench) : (setBench b v s).retired = s.retired := rfl
@[simp] theorem setBench_intake (b : Nat) (v : Bench) : (setBench b v s).intake = s.intake := rfl
@[simp] theorem setBench_benches (b : Nat) (v : Bench) : (setBench b v s).benches = spPut {} b v s.benches := rfl
@[simp] theorem setBench_benchMap (b : Nat) (v : Bench) : (setBench b v s).benchMap = s.benchMap := rfl
@[simp] theorem setBench_gclamps (b : Nat) (v : Bench) : (setBench b v s).gclamps = s.gclamps := rfl
@[simp] theorem setBench_gclampReq (b : Nat) (v : Bench) : (setBench b v s).gclampReq = s.gclampReq := rfl
@[simp] theorem setBench_evq (b : Nat) (v : Bench) : (setBench b v s).evq = s.evq := rfl
@[simp] theorem setBench_chip (b : Nat) (v : Bench) : (setBench b v s).chip = s.chip := rfl
@[simp] theorem setBench_chipPrev (b : Nat) (v : Bench) : (setBench b v s).chipPrev = s.chipPrev := rfl
@[simp] theorem setBench_frozen (b : Nat) (v : Bench) : (setBench b v s).frozen = s.frozen := rfl
@[simp] theorem setBench_gauge (b : Nat) (v : Bench) : (setBench b v s).gauge = s.gauge := rfl
@[simp] theorem setBench_gauAt (b : Nat) (v : Bench) : (setBench b v s).gauAt = s.gauAt := rfl
@[simp] theorem setBench_phase (b : Nat) (v : Bench) : (setBench b v s).phase = s.phase := rfl
@[simp] theorem setBench_trim (b : Nat) (v : Bench) : (setBench b v s).trim = s.trim := rfl
@[simp] theorem setBench_trimAt (b : Nat) (v : Bench) : (setBench b v s).trimAt = s.trimAt := rfl
@[simp] theorem setBench_stepSt (b : Nat) (v : Bench) : (setBench b v s).stepSt = s.stepSt := rfl
@[simp] theorem setBench_stepNo (b : Nat) (v : Bench) : (setBench b v s).stepNo = s.stepNo := rfl
@[simp] theorem setBench_cause (b : Nat) (v : Bench) : (setBench b v s).cause = s.cause := rfl
@[simp] theorem setBench_wsum (b : Nat) (v : Bench) : (setBench b v s).wsum = s.wsum := rfl
@[simp] theorem setBench_marks (b : Nat) (v : Bench) : (setBench b v s).marks = s.marks := rfl
@[simp] theorem setBench_ivMarks (b : Nat) (v : Bench) : (setBench b v s).ivMarks = s.ivMarks := rfl
@[simp] theorem setBench_ivNo (b : Nat) (v : Bench) : (setBench b v s).ivNo = s.ivNo := rfl
@[simp] theorem setBench_childToks (b : Nat) (v : Bench) : (setBench b v s).childToks = s.childToks := rfl
@[simp] theorem setBench_restTest (b : Nat) (v : Bench) : (setBench b v s).restTest = s.restTest := rfl
@[simp] theorem setBench_flows (b : Nat) (v : Bench) : (setBench b v s).flows = s.flows := rfl
@[simp] theorem setBench_splines (b : Nat) (v : Bench) : (setBench b v s).splines = s.splines := rfl
@[simp] theorem setBench_replay (b : Nat) (v : Bench) : (setBench b v s).replay = s.replay := rfl
@[simp] theorem setBench_outDig (b : Nat) (v : Bench) : (setBench b v s).outDig = s.outDig := rfl
@[simp] theorem setBench_l2 (b : Nat) (v : Bench) : (setBench b v s).l2 = s.l2 := rfl
@[simp] theorem setBench_hold (b : Nat) (v : Bench) : (setBench b v s).hold = s.hold := rfl
@[simp] theorem setBench_late (b : Nat) (v : Bench) : (setBench b v s).late = s.late := rfl
@[simp] theorem setBench_swap (b : Nat) (v : Bench) : (setBench b v s).swap = s.swap := rfl
@[simp] theorem setBench_ttabBusy (b : Nat) (v : Bench) : (setBench b v s).ttabBusy = s.ttabBusy := rfl
@[simp] theorem setBench_cabData (b : Nat) (v : Bench) : (setBench b v s).cabData = s.cabData := rfl
@[simp] theorem setBench_cabFault (b : Nat) (v : Bench) : (setBench b v s).cabFault = s.cabFault := rfl
@[simp] theorem setBench_fenced (b : Nat) (v : Bench) : (setBench b v s).fenced = s.fenced := rfl
@[simp] theorem setBench_fencedPl (b : Nat) (v : Bench) : (setBench b v s).fencedPl = s.fencedPl := rfl
@[simp] theorem setBench_resets (b : Nat) (v : Bench) : (setBench b v s).resets = s.resets := rfl
@[simp] theorem setBench_chipTries (b : Nat) (v : Bench) : (setBench b v s).chipTries = s.chipTries := rfl
@[simp] theorem setBench_halted (b : Nat) (v : Bench) : (setBench b v s).halted = s.halted := rfl
@[simp] theorem setBench_restN (b : Nat) (v : Bench) : (setBench b v s).restN = s.restN := rfl
@[simp] theorem setBench_bootsel (b : Nat) (v : Bench) : (setBench b v s).bootsel = s.bootsel := rfl
@[simp] theorem setBench_fw (b : Nat) (v : Bench) : (setBench b v s).fw = s.fw := rfl
@[simp] theorem setBench_cabImg (b : Nat) (v : Bench) : (setBench b v s).cabImg = s.cabImg := rfl
@[simp] theorem setBench_patImg (b : Nat) (v : Bench) : (setBench b v s).patImg = s.patImg := rfl
@[simp] theorem setBench_ownerKeys (b : Nat) (v : Bench) : (setBench b v s).ownerKeys = s.ownerKeys := rfl
@[simp] theorem setBench_restarts (b : Nat) (v : Bench) : (setBench b v s).restarts = s.restarts := rfl
@[simp] theorem setBench_testing (b : Nat) (v : Bench) : (setBench b v s).testing = s.testing := rfl
@[simp] theorem setBench_passed (b : Nat) (v : Bench) : (setBench b v s).passed = s.passed := rfl
@[simp] theorem setBench_hbMiss (b : Nat) (v : Bench) : (setBench b v s).hbMiss = s.hbMiss := rfl
@[simp] theorem setBench_wakeReq (b : Nat) (v : Bench) : (setBench b v s).wakeReq = s.wakeReq := rfl
@[simp] theorem setBench_powerLost (b : Nat) (v : Bench) : (setBench b v s).powerLost = s.powerLost := rfl
@[simp] theorem setBench_throttled (b : Nat) (v : Bench) : (setBench b v s).throttled = s.throttled := rfl
@[simp] theorem setBench_evcPend (b : Nat) (v : Bench) : (setBench b v s).evcPend = s.evcPend := rfl
@[simp] theorem setBench_ringSet (b : Nat) (v : Bench) : (setBench b v s).ringSet = s.ringSet := rfl
@[simp] theorem setBench_unread (b : Nat) (v : Bench) : (setBench b v s).unread = s.unread := rfl
@[simp] theorem setBench_mgpTx (b : Nat) (v : Bench) : (setBench b v s).mgpTx = s.mgpTx := rfl
@[simp] theorem setBench_xspiOut (b : Nat) (v : Bench) : (setBench b v s).xspiOut = s.xspiOut := rfl
@[simp] theorem setBench_telLost (b : Nat) (v : Bench) : (setBench b v s).telLost = s.telLost := rfl
@[simp] theorem setBench_telBase (b : Nat) (v : Bench) : (setBench b v s).telBase = s.telBase := rfl
@[simp] theorem setBench_telSeq (b : Nat) (v : Bench) : (setBench b v s).telSeq = s.telSeq := rfl

/-! ### setFlow -/

@[simp] theorem setFlow_pending (c : Nat) (v : FlowSt) : (setFlow c v s).pending = s.pending := rfl
@[simp] theorem setFlow_free (c : Nat) (v : FlowSt) : (setFlow c v s).free = s.free := rfl
@[simp] theorem setFlow_regs (c : Nat) (v : FlowSt) : (setFlow c v s).regs = s.regs := rfl
@[simp] theorem setFlow_latch (c : Nat) (v : FlowSt) : (setFlow c v s).latch = s.latch := rfl
@[simp] theorem setFlow_rdata (c : Nat) (v : FlowSt) : (setFlow c v s).rdata = s.rdata := rfl
@[simp] theorem setFlow_mem (c : Nat) (v : FlowSt) : (setFlow c v s).mem = s.mem := rfl
@[simp] theorem setFlow_memBad (c : Nat) (v : FlowSt) : (setFlow c v s).memBad = s.memBad := rfl
@[simp] theorem setFlow_bootNo (c : Nat) (v : FlowSt) : (setFlow c v s).bootNo = s.bootNo := rfl
@[simp] theorem setFlow_parAt (c : Nat) (v : FlowSt) : (setFlow c v s).parAt = s.parAt := rfl
@[simp] theorem setFlow_scrubPos (c : Nat) (v : FlowSt) : (setFlow c v s).scrubPos = s.scrubPos := rfl
@[simp] theorem setFlow_scrubWin (c : Nat) (v : FlowSt) : (setFlow c v s).scrubWin = s.scrubWin := rfl
@[simp] theorem setFlow_relocOff (c : Nat) (v : FlowSt) : (setFlow c v s).relocOff = s.relocOff := rfl
@[simp] theorem setFlow_retired (c : Nat) (v : FlowSt) : (setFlow c v s).retired = s.retired := rfl
@[simp] theorem setFlow_intake (c : Nat) (v : FlowSt) : (setFlow c v s).intake = s.intake := rfl
@[simp] theorem setFlow_benches (c : Nat) (v : FlowSt) : (setFlow c v s).benches = s.benches := rfl
@[simp] theorem setFlow_benchMap (c : Nat) (v : FlowSt) : (setFlow c v s).benchMap = s.benchMap := rfl
@[simp] theorem setFlow_gclamps (c : Nat) (v : FlowSt) : (setFlow c v s).gclamps = s.gclamps := rfl
@[simp] theorem setFlow_gclampReq (c : Nat) (v : FlowSt) : (setFlow c v s).gclampReq = s.gclampReq := rfl
@[simp] theorem setFlow_evq (c : Nat) (v : FlowSt) : (setFlow c v s).evq = s.evq := rfl
@[simp] theorem setFlow_chip (c : Nat) (v : FlowSt) : (setFlow c v s).chip = s.chip := rfl
@[simp] theorem setFlow_chipPrev (c : Nat) (v : FlowSt) : (setFlow c v s).chipPrev = s.chipPrev := rfl
@[simp] theorem setFlow_frozen (c : Nat) (v : FlowSt) : (setFlow c v s).frozen = s.frozen := rfl
@[simp] theorem setFlow_gauge (c : Nat) (v : FlowSt) : (setFlow c v s).gauge = s.gauge := rfl
@[simp] theorem setFlow_gauAt (c : Nat) (v : FlowSt) : (setFlow c v s).gauAt = s.gauAt := rfl
@[simp] theorem setFlow_phase (c : Nat) (v : FlowSt) : (setFlow c v s).phase = s.phase := rfl
@[simp] theorem setFlow_trim (c : Nat) (v : FlowSt) : (setFlow c v s).trim = s.trim := rfl
@[simp] theorem setFlow_trimAt (c : Nat) (v : FlowSt) : (setFlow c v s).trimAt = s.trimAt := rfl
@[simp] theorem setFlow_stepSt (c : Nat) (v : FlowSt) : (setFlow c v s).stepSt = s.stepSt := rfl
@[simp] theorem setFlow_stepNo (c : Nat) (v : FlowSt) : (setFlow c v s).stepNo = s.stepNo := rfl
@[simp] theorem setFlow_cause (c : Nat) (v : FlowSt) : (setFlow c v s).cause = s.cause := rfl
@[simp] theorem setFlow_wsum (c : Nat) (v : FlowSt) : (setFlow c v s).wsum = s.wsum := rfl
@[simp] theorem setFlow_marks (c : Nat) (v : FlowSt) : (setFlow c v s).marks = s.marks := rfl
@[simp] theorem setFlow_ivMarks (c : Nat) (v : FlowSt) : (setFlow c v s).ivMarks = s.ivMarks := rfl
@[simp] theorem setFlow_ivNo (c : Nat) (v : FlowSt) : (setFlow c v s).ivNo = s.ivNo := rfl
@[simp] theorem setFlow_childToks (c : Nat) (v : FlowSt) : (setFlow c v s).childToks = s.childToks := rfl
@[simp] theorem setFlow_restTest (c : Nat) (v : FlowSt) : (setFlow c v s).restTest = s.restTest := rfl
@[simp] theorem setFlow_flows (c : Nat) (v : FlowSt) : (setFlow c v s).flows = spPut {} c v s.flows := rfl
@[simp] theorem setFlow_splines (c : Nat) (v : FlowSt) : (setFlow c v s).splines = s.splines := rfl
@[simp] theorem setFlow_replay (c : Nat) (v : FlowSt) : (setFlow c v s).replay = s.replay := rfl
@[simp] theorem setFlow_outDig (c : Nat) (v : FlowSt) : (setFlow c v s).outDig = s.outDig := rfl
@[simp] theorem setFlow_l2 (c : Nat) (v : FlowSt) : (setFlow c v s).l2 = s.l2 := rfl
@[simp] theorem setFlow_hold (c : Nat) (v : FlowSt) : (setFlow c v s).hold = s.hold := rfl
@[simp] theorem setFlow_late (c : Nat) (v : FlowSt) : (setFlow c v s).late = s.late := rfl
@[simp] theorem setFlow_swap (c : Nat) (v : FlowSt) : (setFlow c v s).swap = s.swap := rfl
@[simp] theorem setFlow_ttabBusy (c : Nat) (v : FlowSt) : (setFlow c v s).ttabBusy = s.ttabBusy := rfl
@[simp] theorem setFlow_cabData (c : Nat) (v : FlowSt) : (setFlow c v s).cabData = s.cabData := rfl
@[simp] theorem setFlow_cabFault (c : Nat) (v : FlowSt) : (setFlow c v s).cabFault = s.cabFault := rfl
@[simp] theorem setFlow_fenced (c : Nat) (v : FlowSt) : (setFlow c v s).fenced = s.fenced := rfl
@[simp] theorem setFlow_fencedPl (c : Nat) (v : FlowSt) : (setFlow c v s).fencedPl = s.fencedPl := rfl
@[simp] theorem setFlow_resets (c : Nat) (v : FlowSt) : (setFlow c v s).resets = s.resets := rfl
@[simp] theorem setFlow_chipTries (c : Nat) (v : FlowSt) : (setFlow c v s).chipTries = s.chipTries := rfl
@[simp] theorem setFlow_halted (c : Nat) (v : FlowSt) : (setFlow c v s).halted = s.halted := rfl
@[simp] theorem setFlow_restN (c : Nat) (v : FlowSt) : (setFlow c v s).restN = s.restN := rfl
@[simp] theorem setFlow_bootsel (c : Nat) (v : FlowSt) : (setFlow c v s).bootsel = s.bootsel := rfl
@[simp] theorem setFlow_fw (c : Nat) (v : FlowSt) : (setFlow c v s).fw = s.fw := rfl
@[simp] theorem setFlow_cabImg (c : Nat) (v : FlowSt) : (setFlow c v s).cabImg = s.cabImg := rfl
@[simp] theorem setFlow_patImg (c : Nat) (v : FlowSt) : (setFlow c v s).patImg = s.patImg := rfl
@[simp] theorem setFlow_ownerKeys (c : Nat) (v : FlowSt) : (setFlow c v s).ownerKeys = s.ownerKeys := rfl
@[simp] theorem setFlow_restarts (c : Nat) (v : FlowSt) : (setFlow c v s).restarts = s.restarts := rfl
@[simp] theorem setFlow_testing (c : Nat) (v : FlowSt) : (setFlow c v s).testing = s.testing := rfl
@[simp] theorem setFlow_passed (c : Nat) (v : FlowSt) : (setFlow c v s).passed = s.passed := rfl
@[simp] theorem setFlow_hbMiss (c : Nat) (v : FlowSt) : (setFlow c v s).hbMiss = s.hbMiss := rfl
@[simp] theorem setFlow_wakeReq (c : Nat) (v : FlowSt) : (setFlow c v s).wakeReq = s.wakeReq := rfl
@[simp] theorem setFlow_powerLost (c : Nat) (v : FlowSt) : (setFlow c v s).powerLost = s.powerLost := rfl
@[simp] theorem setFlow_throttled (c : Nat) (v : FlowSt) : (setFlow c v s).throttled = s.throttled := rfl
@[simp] theorem setFlow_evcPend (c : Nat) (v : FlowSt) : (setFlow c v s).evcPend = s.evcPend := rfl
@[simp] theorem setFlow_ringSet (c : Nat) (v : FlowSt) : (setFlow c v s).ringSet = s.ringSet := rfl
@[simp] theorem setFlow_unread (c : Nat) (v : FlowSt) : (setFlow c v s).unread = s.unread := rfl
@[simp] theorem setFlow_mgpTx (c : Nat) (v : FlowSt) : (setFlow c v s).mgpTx = s.mgpTx := rfl
@[simp] theorem setFlow_xspiOut (c : Nat) (v : FlowSt) : (setFlow c v s).xspiOut = s.xspiOut := rfl
@[simp] theorem setFlow_telLost (c : Nat) (v : FlowSt) : (setFlow c v s).telLost = s.telLost := rfl
@[simp] theorem setFlow_telBase (c : Nat) (v : FlowSt) : (setFlow c v s).telBase = s.telBase := rfl
@[simp] theorem setFlow_telSeq (c : Nat) (v : FlowSt) : (setFlow c v s).telSeq = s.telSeq := rfl

/-! ### setSpline -/

@[simp] theorem setSpline_pending (x : Nat) (v : SplineSt) : (setSpline x v s).pending = s.pending := rfl
@[simp] theorem setSpline_free (x : Nat) (v : SplineSt) : (setSpline x v s).free = s.free := rfl
@[simp] theorem setSpline_regs (x : Nat) (v : SplineSt) : (setSpline x v s).regs = s.regs := rfl
@[simp] theorem setSpline_latch (x : Nat) (v : SplineSt) : (setSpline x v s).latch = s.latch := rfl
@[simp] theorem setSpline_rdata (x : Nat) (v : SplineSt) : (setSpline x v s).rdata = s.rdata := rfl
@[simp] theorem setSpline_mem (x : Nat) (v : SplineSt) : (setSpline x v s).mem = s.mem := rfl
@[simp] theorem setSpline_memBad (x : Nat) (v : SplineSt) : (setSpline x v s).memBad = s.memBad := rfl
@[simp] theorem setSpline_bootNo (x : Nat) (v : SplineSt) : (setSpline x v s).bootNo = s.bootNo := rfl
@[simp] theorem setSpline_parAt (x : Nat) (v : SplineSt) : (setSpline x v s).parAt = s.parAt := rfl
@[simp] theorem setSpline_scrubPos (x : Nat) (v : SplineSt) : (setSpline x v s).scrubPos = s.scrubPos := rfl
@[simp] theorem setSpline_scrubWin (x : Nat) (v : SplineSt) : (setSpline x v s).scrubWin = s.scrubWin := rfl
@[simp] theorem setSpline_relocOff (x : Nat) (v : SplineSt) : (setSpline x v s).relocOff = s.relocOff := rfl
@[simp] theorem setSpline_retired (x : Nat) (v : SplineSt) : (setSpline x v s).retired = s.retired := rfl
@[simp] theorem setSpline_intake (x : Nat) (v : SplineSt) : (setSpline x v s).intake = s.intake := rfl
@[simp] theorem setSpline_benches (x : Nat) (v : SplineSt) : (setSpline x v s).benches = s.benches := rfl
@[simp] theorem setSpline_benchMap (x : Nat) (v : SplineSt) : (setSpline x v s).benchMap = s.benchMap := rfl
@[simp] theorem setSpline_gclamps (x : Nat) (v : SplineSt) : (setSpline x v s).gclamps = s.gclamps := rfl
@[simp] theorem setSpline_gclampReq (x : Nat) (v : SplineSt) : (setSpline x v s).gclampReq = s.gclampReq := rfl
@[simp] theorem setSpline_evq (x : Nat) (v : SplineSt) : (setSpline x v s).evq = s.evq := rfl
@[simp] theorem setSpline_chip (x : Nat) (v : SplineSt) : (setSpline x v s).chip = s.chip := rfl
@[simp] theorem setSpline_chipPrev (x : Nat) (v : SplineSt) : (setSpline x v s).chipPrev = s.chipPrev := rfl
@[simp] theorem setSpline_frozen (x : Nat) (v : SplineSt) : (setSpline x v s).frozen = s.frozen := rfl
@[simp] theorem setSpline_gauge (x : Nat) (v : SplineSt) : (setSpline x v s).gauge = s.gauge := rfl
@[simp] theorem setSpline_gauAt (x : Nat) (v : SplineSt) : (setSpline x v s).gauAt = s.gauAt := rfl
@[simp] theorem setSpline_phase (x : Nat) (v : SplineSt) : (setSpline x v s).phase = s.phase := rfl
@[simp] theorem setSpline_trim (x : Nat) (v : SplineSt) : (setSpline x v s).trim = s.trim := rfl
@[simp] theorem setSpline_trimAt (x : Nat) (v : SplineSt) : (setSpline x v s).trimAt = s.trimAt := rfl
@[simp] theorem setSpline_stepSt (x : Nat) (v : SplineSt) : (setSpline x v s).stepSt = s.stepSt := rfl
@[simp] theorem setSpline_stepNo (x : Nat) (v : SplineSt) : (setSpline x v s).stepNo = s.stepNo := rfl
@[simp] theorem setSpline_cause (x : Nat) (v : SplineSt) : (setSpline x v s).cause = s.cause := rfl
@[simp] theorem setSpline_wsum (x : Nat) (v : SplineSt) : (setSpline x v s).wsum = s.wsum := rfl
@[simp] theorem setSpline_marks (x : Nat) (v : SplineSt) : (setSpline x v s).marks = s.marks := rfl
@[simp] theorem setSpline_ivMarks (x : Nat) (v : SplineSt) : (setSpline x v s).ivMarks = s.ivMarks := rfl
@[simp] theorem setSpline_ivNo (x : Nat) (v : SplineSt) : (setSpline x v s).ivNo = s.ivNo := rfl
@[simp] theorem setSpline_childToks (x : Nat) (v : SplineSt) : (setSpline x v s).childToks = s.childToks := rfl
@[simp] theorem setSpline_restTest (x : Nat) (v : SplineSt) : (setSpline x v s).restTest = s.restTest := rfl
@[simp] theorem setSpline_flows (x : Nat) (v : SplineSt) : (setSpline x v s).flows = s.flows := rfl
@[simp] theorem setSpline_splines (x : Nat) (v : SplineSt) : (setSpline x v s).splines = spPut {} x v s.splines := rfl
@[simp] theorem setSpline_replay (x : Nat) (v : SplineSt) : (setSpline x v s).replay = s.replay := rfl
@[simp] theorem setSpline_outDig (x : Nat) (v : SplineSt) : (setSpline x v s).outDig = s.outDig := rfl
@[simp] theorem setSpline_l2 (x : Nat) (v : SplineSt) : (setSpline x v s).l2 = s.l2 := rfl
@[simp] theorem setSpline_hold (x : Nat) (v : SplineSt) : (setSpline x v s).hold = s.hold := rfl
@[simp] theorem setSpline_late (x : Nat) (v : SplineSt) : (setSpline x v s).late = s.late := rfl
@[simp] theorem setSpline_swap (x : Nat) (v : SplineSt) : (setSpline x v s).swap = s.swap := rfl
@[simp] theorem setSpline_ttabBusy (x : Nat) (v : SplineSt) : (setSpline x v s).ttabBusy = s.ttabBusy := rfl
@[simp] theorem setSpline_cabData (x : Nat) (v : SplineSt) : (setSpline x v s).cabData = s.cabData := rfl
@[simp] theorem setSpline_cabFault (x : Nat) (v : SplineSt) : (setSpline x v s).cabFault = s.cabFault := rfl
@[simp] theorem setSpline_fenced (x : Nat) (v : SplineSt) : (setSpline x v s).fenced = s.fenced := rfl
@[simp] theorem setSpline_fencedPl (x : Nat) (v : SplineSt) : (setSpline x v s).fencedPl = s.fencedPl := rfl
@[simp] theorem setSpline_resets (x : Nat) (v : SplineSt) : (setSpline x v s).resets = s.resets := rfl
@[simp] theorem setSpline_chipTries (x : Nat) (v : SplineSt) : (setSpline x v s).chipTries = s.chipTries := rfl
@[simp] theorem setSpline_halted (x : Nat) (v : SplineSt) : (setSpline x v s).halted = s.halted := rfl
@[simp] theorem setSpline_restN (x : Nat) (v : SplineSt) : (setSpline x v s).restN = s.restN := rfl
@[simp] theorem setSpline_bootsel (x : Nat) (v : SplineSt) : (setSpline x v s).bootsel = s.bootsel := rfl
@[simp] theorem setSpline_fw (x : Nat) (v : SplineSt) : (setSpline x v s).fw = s.fw := rfl
@[simp] theorem setSpline_cabImg (x : Nat) (v : SplineSt) : (setSpline x v s).cabImg = s.cabImg := rfl
@[simp] theorem setSpline_patImg (x : Nat) (v : SplineSt) : (setSpline x v s).patImg = s.patImg := rfl
@[simp] theorem setSpline_ownerKeys (x : Nat) (v : SplineSt) : (setSpline x v s).ownerKeys = s.ownerKeys := rfl
@[simp] theorem setSpline_restarts (x : Nat) (v : SplineSt) : (setSpline x v s).restarts = s.restarts := rfl
@[simp] theorem setSpline_testing (x : Nat) (v : SplineSt) : (setSpline x v s).testing = s.testing := rfl
@[simp] theorem setSpline_passed (x : Nat) (v : SplineSt) : (setSpline x v s).passed = s.passed := rfl
@[simp] theorem setSpline_hbMiss (x : Nat) (v : SplineSt) : (setSpline x v s).hbMiss = s.hbMiss := rfl
@[simp] theorem setSpline_wakeReq (x : Nat) (v : SplineSt) : (setSpline x v s).wakeReq = s.wakeReq := rfl
@[simp] theorem setSpline_powerLost (x : Nat) (v : SplineSt) : (setSpline x v s).powerLost = s.powerLost := rfl
@[simp] theorem setSpline_throttled (x : Nat) (v : SplineSt) : (setSpline x v s).throttled = s.throttled := rfl
@[simp] theorem setSpline_evcPend (x : Nat) (v : SplineSt) : (setSpline x v s).evcPend = s.evcPend := rfl
@[simp] theorem setSpline_ringSet (x : Nat) (v : SplineSt) : (setSpline x v s).ringSet = s.ringSet := rfl
@[simp] theorem setSpline_unread (x : Nat) (v : SplineSt) : (setSpline x v s).unread = s.unread := rfl
@[simp] theorem setSpline_mgpTx (x : Nat) (v : SplineSt) : (setSpline x v s).mgpTx = s.mgpTx := rfl
@[simp] theorem setSpline_xspiOut (x : Nat) (v : SplineSt) : (setSpline x v s).xspiOut = s.xspiOut := rfl
@[simp] theorem setSpline_telLost (x : Nat) (v : SplineSt) : (setSpline x v s).telLost = s.telLost := rfl
@[simp] theorem setSpline_telBase (x : Nat) (v : SplineSt) : (setSpline x v s).telBase = s.telBase := rfl
@[simp] theorem setSpline_telSeq (x : Nat) (v : SplineSt) : (setSpline x v s).telSeq = s.telSeq := rfl

/-! ### memPut -/

@[simp] theorem memPut_pending (a : Nat) (v : Byte) : (memPut a v s).pending = s.pending := rfl
@[simp] theorem memPut_free (a : Nat) (v : Byte) : (memPut a v s).free = s.free := rfl
@[simp] theorem memPut_regs (a : Nat) (v : Byte) : (memPut a v s).regs = s.regs := rfl
@[simp] theorem memPut_latch (a : Nat) (v : Byte) : (memPut a v s).latch = s.latch := rfl
@[simp] theorem memPut_rdata (a : Nat) (v : Byte) : (memPut a v s).rdata = s.rdata := rfl
@[simp] theorem memPut_mem (a : Nat) (v : Byte) : (memPut a v s).mem = spIns (memLoc s a) v s.mem := rfl
@[simp] theorem memPut_memBad (a : Nat) (v : Byte) : (memPut a v s).memBad = s.memBad.erase (memLoc s a / 16) := rfl
@[simp] theorem memPut_bootNo (a : Nat) (v : Byte) : (memPut a v s).bootNo = s.bootNo := rfl
@[simp] theorem memPut_parAt (a : Nat) (v : Byte) : (memPut a v s).parAt = s.parAt := rfl
@[simp] theorem memPut_scrubPos (a : Nat) (v : Byte) : (memPut a v s).scrubPos = s.scrubPos := rfl
@[simp] theorem memPut_scrubWin (a : Nat) (v : Byte) : (memPut a v s).scrubWin = s.scrubWin := rfl
@[simp] theorem memPut_relocOff (a : Nat) (v : Byte) : (memPut a v s).relocOff = s.relocOff := rfl
@[simp] theorem memPut_retired (a : Nat) (v : Byte) : (memPut a v s).retired = s.retired := rfl
@[simp] theorem memPut_intake (a : Nat) (v : Byte) : (memPut a v s).intake = s.intake := rfl
@[simp] theorem memPut_benches (a : Nat) (v : Byte) : (memPut a v s).benches = s.benches := rfl
@[simp] theorem memPut_benchMap (a : Nat) (v : Byte) : (memPut a v s).benchMap = s.benchMap := rfl
@[simp] theorem memPut_gclamps (a : Nat) (v : Byte) : (memPut a v s).gclamps = s.gclamps := rfl
@[simp] theorem memPut_gclampReq (a : Nat) (v : Byte) : (memPut a v s).gclampReq = s.gclampReq := rfl
@[simp] theorem memPut_evq (a : Nat) (v : Byte) : (memPut a v s).evq = s.evq := rfl
@[simp] theorem memPut_chip (a : Nat) (v : Byte) : (memPut a v s).chip = s.chip := rfl
@[simp] theorem memPut_chipPrev (a : Nat) (v : Byte) : (memPut a v s).chipPrev = s.chipPrev := rfl
@[simp] theorem memPut_frozen (a : Nat) (v : Byte) : (memPut a v s).frozen = s.frozen := rfl
@[simp] theorem memPut_gauge (a : Nat) (v : Byte) : (memPut a v s).gauge = s.gauge := rfl
@[simp] theorem memPut_gauAt (a : Nat) (v : Byte) : (memPut a v s).gauAt = s.gauAt := rfl
@[simp] theorem memPut_phase (a : Nat) (v : Byte) : (memPut a v s).phase = s.phase := rfl
@[simp] theorem memPut_trim (a : Nat) (v : Byte) : (memPut a v s).trim = s.trim := rfl
@[simp] theorem memPut_trimAt (a : Nat) (v : Byte) : (memPut a v s).trimAt = s.trimAt := rfl
@[simp] theorem memPut_stepSt (a : Nat) (v : Byte) : (memPut a v s).stepSt = s.stepSt := rfl
@[simp] theorem memPut_stepNo (a : Nat) (v : Byte) : (memPut a v s).stepNo = s.stepNo := rfl
@[simp] theorem memPut_cause (a : Nat) (v : Byte) : (memPut a v s).cause = s.cause := rfl
@[simp] theorem memPut_wsum (a : Nat) (v : Byte) : (memPut a v s).wsum = s.wsum := rfl
@[simp] theorem memPut_marks (a : Nat) (v : Byte) : (memPut a v s).marks = s.marks := rfl
@[simp] theorem memPut_ivMarks (a : Nat) (v : Byte) : (memPut a v s).ivMarks = s.ivMarks := rfl
@[simp] theorem memPut_ivNo (a : Nat) (v : Byte) : (memPut a v s).ivNo = s.ivNo := rfl
@[simp] theorem memPut_childToks (a : Nat) (v : Byte) : (memPut a v s).childToks = s.childToks := rfl
@[simp] theorem memPut_restTest (a : Nat) (v : Byte) : (memPut a v s).restTest = s.restTest := rfl
@[simp] theorem memPut_flows (a : Nat) (v : Byte) : (memPut a v s).flows = s.flows := rfl
@[simp] theorem memPut_splines (a : Nat) (v : Byte) : (memPut a v s).splines = s.splines := rfl
@[simp] theorem memPut_replay (a : Nat) (v : Byte) : (memPut a v s).replay = s.replay := rfl
@[simp] theorem memPut_outDig (a : Nat) (v : Byte) : (memPut a v s).outDig = s.outDig := rfl
@[simp] theorem memPut_l2 (a : Nat) (v : Byte) : (memPut a v s).l2 = s.l2 := rfl
@[simp] theorem memPut_hold (a : Nat) (v : Byte) : (memPut a v s).hold = s.hold := rfl
@[simp] theorem memPut_late (a : Nat) (v : Byte) : (memPut a v s).late = s.late := rfl
@[simp] theorem memPut_swap (a : Nat) (v : Byte) : (memPut a v s).swap = s.swap := rfl
@[simp] theorem memPut_ttabBusy (a : Nat) (v : Byte) : (memPut a v s).ttabBusy = s.ttabBusy := rfl
@[simp] theorem memPut_cabData (a : Nat) (v : Byte) : (memPut a v s).cabData = s.cabData := rfl
@[simp] theorem memPut_cabFault (a : Nat) (v : Byte) : (memPut a v s).cabFault = s.cabFault := rfl
@[simp] theorem memPut_fenced (a : Nat) (v : Byte) : (memPut a v s).fenced = s.fenced := rfl
@[simp] theorem memPut_fencedPl (a : Nat) (v : Byte) : (memPut a v s).fencedPl = s.fencedPl := rfl
@[simp] theorem memPut_resets (a : Nat) (v : Byte) : (memPut a v s).resets = s.resets := rfl
@[simp] theorem memPut_chipTries (a : Nat) (v : Byte) : (memPut a v s).chipTries = s.chipTries := rfl
@[simp] theorem memPut_halted (a : Nat) (v : Byte) : (memPut a v s).halted = s.halted := rfl
@[simp] theorem memPut_restN (a : Nat) (v : Byte) : (memPut a v s).restN = s.restN := rfl
@[simp] theorem memPut_bootsel (a : Nat) (v : Byte) : (memPut a v s).bootsel = s.bootsel := rfl
@[simp] theorem memPut_fw (a : Nat) (v : Byte) : (memPut a v s).fw = s.fw := rfl
@[simp] theorem memPut_cabImg (a : Nat) (v : Byte) : (memPut a v s).cabImg = s.cabImg := rfl
@[simp] theorem memPut_patImg (a : Nat) (v : Byte) : (memPut a v s).patImg = s.patImg := rfl
@[simp] theorem memPut_ownerKeys (a : Nat) (v : Byte) : (memPut a v s).ownerKeys = s.ownerKeys := rfl
@[simp] theorem memPut_restarts (a : Nat) (v : Byte) : (memPut a v s).restarts = s.restarts := rfl
@[simp] theorem memPut_testing (a : Nat) (v : Byte) : (memPut a v s).testing = s.testing := rfl
@[simp] theorem memPut_passed (a : Nat) (v : Byte) : (memPut a v s).passed = s.passed := rfl
@[simp] theorem memPut_hbMiss (a : Nat) (v : Byte) : (memPut a v s).hbMiss = s.hbMiss := rfl
@[simp] theorem memPut_wakeReq (a : Nat) (v : Byte) : (memPut a v s).wakeReq = s.wakeReq := rfl
@[simp] theorem memPut_powerLost (a : Nat) (v : Byte) : (memPut a v s).powerLost = s.powerLost := rfl
@[simp] theorem memPut_throttled (a : Nat) (v : Byte) : (memPut a v s).throttled = s.throttled := rfl
@[simp] theorem memPut_evcPend (a : Nat) (v : Byte) : (memPut a v s).evcPend = s.evcPend := rfl
@[simp] theorem memPut_ringSet (a : Nat) (v : Byte) : (memPut a v s).ringSet = s.ringSet := rfl
@[simp] theorem memPut_unread (a : Nat) (v : Byte) : (memPut a v s).unread = s.unread := rfl
@[simp] theorem memPut_mgpTx (a : Nat) (v : Byte) : (memPut a v s).mgpTx = s.mgpTx := rfl
@[simp] theorem memPut_xspiOut (a : Nat) (v : Byte) : (memPut a v s).xspiOut = s.xspiOut := rfl
@[simp] theorem memPut_telLost (a : Nat) (v : Byte) : (memPut a v s).telLost = s.telLost := rfl
@[simp] theorem memPut_telBase (a : Nat) (v : Byte) : (memPut a v s).telBase = s.telBase := rfl
@[simp] theorem memPut_telSeq (a : Nat) (v : Byte) : (memPut a v s).telSeq = s.telSeq := rfl

end Sys2Proof.Machine
end

