-- ==== Sys2Proof/Laws/Registers.lean ====
section
/-! SUPPORT. Laws of the registers: what a register reads as after each hardware write, and what an event changes. -/

namespace Sys2Proof.Machine

variable (s : State)

/-- A register reads as what was last written to it. -/
theorem rg_wr (a : Nat) (v : Word) (x : Nat) : rg (wr a v s) x = if x = a then v else rg s x := by
  unfold rg wr
  show (spFind x (spPut (regReset a) a v s.regs)).getD (regReset x) = _
  unfold spPut
  split
  · rename_i h; rw [spFind_spDel]; split
    · rename_i h'; subst h'; exact h.symm
    · rfl
  · rw [spFind_spIns]; split <;> rfl

@[simp] theorem rg_wr_self (a : Nat) (v : Word) : rg (wr a v s) a = v := by simp [rg_wr]
theorem rg_wr_of_ne {a x : Nat} (v : Word) (h : x ≠ a) : rg (wr a v s) x = rg s x := by simp [rg_wr, h]

theorem rg_congr {s t : State} (h : t.regs = s.regs) (x : Nat) : rg t x = rg s x := by unfold rg; rw [h]

@[simp] theorem rg_satAdd_self (a k : Nat) :
    rg (satAdd a k s) a = word (min 0xFFFFFFFF ((rg s a).toNat + k)) := by simp [satAdd]
theorem rg_satAdd_of_ne {a x : Nat} (k : Nat) (h : x ≠ a) : rg (satAdd a k s) x = rg s x := by
  simp [satAdd, rg_wr_of_ne, h]
@[simp] theorem rg_wrapInc_self (a : Nat) : rg (wrapInc a s) a = rg s a + 1 := by simp [wrapInc]
theorem rg_wrapInc_of_ne {a x : Nat} (h : x ≠ a) : rg (wrapInc a s) x = rg s x := by simp [wrapInc, rg_wr_of_ne, h]
theorem rg_wrF_of_ne {a x : Nat} (hi lo v : Nat) (h : x ≠ a) : rg (wrF a hi lo v s) x = rg s x := by
  simp [wrF, rg_wr_of_ne, h]
@[simp] theorem rg_wrF_self (a hi lo v : Nat) : rg (wrF a hi lo v s) a = putBits (rg s a) hi lo v := by simp [wrF]
theorem rg_wr64_of_ne {a x : Nat} (v : DWord) (h : x ≠ a) (h' : x ≠ a + 4) : rg (wr64 a v s) x = rg s x := by
  simp [wr64, rg_wr_of_ne, h, h']
theorem rg_satAdd48_of_ne {a x : Nat} (k : Nat) (h : x ≠ a) (h' : x ≠ a + 4) : rg (satAdd48 a k s) x = rg s x := by
  simp [satAdd48, rg_wr64_of_ne, h, h']

/-! ### What these writes leave alone: everything but the registers -/

theorem wr_shape (a : Nat) (v : Word) : wr a v s = { s with regs := (wr a v s).regs } := rfl
theorem satAdd_shape (a k : Nat) : satAdd a k s = { s with regs := (satAdd a k s).regs } := rfl
theorem wrapInc_shape (a : Nat) : wrapInc a s = { s with regs := (wrapInc a s).regs } := rfl
theorem wr64_shape (a : Nat) (v : DWord) : wr64 a v s = { s with regs := (wr64 a v s).regs } := rfl

/-! ### Events -/

/-- An event writes only its page's HEALTH, ERR_FIRST, ERR_FIRST_GAUGE and ERR_COUNT. -/
theorem rg_raiseEv {p x : Nat} (c w4 w5 : Nat) (h : x ∉ hdrRegs p) : rg (raiseEv p c w4 w5 s) x = rg s x := by
  simp only [hdrRegs, List.mem_cons, List.not_mem_nil, or_false, not_or] at h
  obtain ⟨h1, h2, h3, h4⟩ := h
  have key : ∀ u : State, rg (latchErr p c w4 u) x = rg u x := by
    intro u; unfold latchErr
    split
    · rfl
    · dsimp only
      split <;> simp [rg_wr_of_ne, rg_satAdd_of_ne, h2, h3, h4]
  unfold raiseEv
  dsimp only
  split <;> split <;>
    first
      | exact key s
      | exact (rg_wr_of_ne _ _ h1).trans (key s)

theorem latchErr_shape (p c w4 : Nat) : latchErr p c w4 s = { s with regs := (latchErr p c w4 s).regs } := by
  unfold latchErr; split
  · rfl
  · dsimp only; split <;> rfl

/-- Beside those registers, an event changes only the queue of events. -/
theorem raiseEv_shape (p c w4 w5 : Nat) :
    raiseEv p c w4 w5 s = { s with regs := (raiseEv p c w4 w5 s).regs, evq := (raiseEv p c w4 w5 s).evq } := by
  unfold raiseEv
  rw [latchErr_shape]
  dsimp only
  split <;> split <;> rfl

theorem voidBit_shape (k : Nat) : voidBit k s = { s with cause := (voidBit k s).cause } := by
  unfold voidBit; split <;> rfl
theorem benchVoid_shape (b k : Nat) : benchVoid b k s = { s with cause := (benchVoid b k s).cause } := by
  unfold benchVoid; split
  · rfl
  · exact voidBit_shape s k

@[simp] theorem rg_benchVoid (b k x : Nat) : rg (benchVoid b k s) x = rg s x := by rw [benchVoid_shape]; rfl
@[simp] theorem rg_voidBit (k x : Nat) : rg (voidBit k s) x = rg s x := by rw [voidBit_shape]; rfl

/-- A refusal changes its page's REFUSED and what its event changes, nothing else. -/
theorem refuse_shape (p off r v : Nat) :
    refuse p off r v s = { s with regs := (refuse p off r v s).regs, evq := (refuse p off r v s).evq } := by
  unfold refuse
  rw [raiseEv_shape]
  dsimp only
  split <;> rfl

theorem rg_refuse {p x : Nat} (off r v : Nat) (h : x ∉ hdrRegs p) (h' : x ≠ Rg.REFUSED p) :
    rg (refuse p off r v s) x = rg s x := by
  unfold refuse
  rw [rg_raiseEv _ _ _ _ h]
  split <;> simp [rg_wr_of_ne, h']

/-! ### What leaves all but registers, events and the cause alone -/

theorem Logged.refl : Logged s s := rfl
theorem Logged.trans {s t u : State} (h : Logged s t) (h' : Logged t u) : Logged s u := by
  unfold Logged at *; rw [h', h]
theorem Logged.wr {s t : State} (h : Logged s t) (a : Nat) (v : Word) : Logged s (wr a v t) := h.trans rfl
theorem Logged.satAdd {s t : State} (h : Logged s t) (a k : Nat) : Logged s (satAdd a k t) := h.trans rfl
theorem Logged.wr64 {s t : State} (h : Logged s t) (a : Nat) (v : DWord) : Logged s (wr64 a v t) := h.trans rfl
theorem logged_raiseEv (p c w4 w5 : Nat) : Logged s (raiseEv p c w4 w5 s) := by
  unfold Logged; rw [raiseEv_shape]
theorem Logged.raiseEv {s t : State} (h : Logged s t) (p c w4 w5 : Nat) : Logged s (raiseEv p c w4 w5 t) :=
  h.trans (logged_raiseEv t p c w4 w5)
theorem logged_voidBit (k : Nat) : Logged s (voidBit k s) := by unfold Logged; rw [voidBit_shape]
theorem Logged.voidBit {s t : State} (h : Logged s t) (k : Nat) : Logged s (voidBit k t) :=
  h.trans (logged_voidBit t k)
theorem logged_benchVoid (b k : Nat) : Logged s (benchVoid b k s) := by unfold Logged; rw [benchVoid_shape]
theorem Logged.benchVoid {s t : State} (h : Logged s t) (b k : Nat) : Logged s (benchVoid b k t) :=
  h.trans (logged_benchVoid t b k)
theorem Logged.ite {c : Prop} [Decidable c] {t u : State} (h : Logged s t) (h' : Logged s u) :
    Logged s (if c then t else u) := by split <;> assumption

theorem Logged.benches {s t : State} (h : Logged s t) : t.benches = s.benches := by rw [h]
theorem Logged.mem {s t : State} (h : Logged s t) : t.mem = s.mem := by rw [h]

end Sys2Proof.Machine
end

