-- ==== Sys2Proof/Laws/Benches.lean ====
section
/-! SUPPORT. Laws of the benches: what a bench is after each update, what a trap changes, and the issue of an instruction. -/

namespace Sys2Proof.Machine

variable (s : State)

/-! ### Reading a bench after an update -/

theorem bench_setBench (b : Nat) (v : Bench) (k : Nat) : bench (setBench b v s) k = if k = b then v else bench s k :=
  spGet_spPut _ _ _ _ _
@[simp] theorem bench_setBench_self (b : Nat) (v : Bench) : bench (setBench b v s) b = v := by simp [bench_setBench]
theorem bench_setBench_of_ne {b k : Nat} (v : Bench) (h : k ≠ b) : bench (setBench b v s) k = bench s k := by
  simp [bench_setBench, h]
@[simp] theorem bench_modBench_self (b : Nat) (f : Bench → Bench) : bench (modBench b f s) b = f (bench s b) := by
  simp [modBench]
theorem bench_modBench_of_ne {b k : Nat} (f : Bench → Bench) (h : k ≠ b) : bench (modBench b f s) k = bench s k := by
  simp [modBench, bench_setBench, h]
@[simp] theorem bench_wr (a : Nat) (v : Word) (k : Nat) : bench (wr a v s) k = bench s k := rfl
theorem bench_congr {s t : State} (h : t.benches = s.benches) (k : Nat) : bench t k = bench s k := by
  unfold bench; rw [h]

@[simp] theorem Bench.str_setStr_self (x : Bench) (t : Stream) (v : StreamSt) : (x.setStr t v).str t = v := by
  cases t <;> rfl
theorem Bench.str_setStr_of_ne (x : Bench) {t k : Stream} (v : StreamSt) (h : k ≠ t) : (x.setStr t v).str k = x.str k := by
  cases t <;> cases k <;> first | exact absurd rfl h | rfl
@[simp] theorem Bench.setStr_setStr (x : Bench) (t : Stream) (v w : StreamSt) : (x.setStr t v).setStr t w = x.setStr t w := by
  cases t <;> rfl

theorem setBench_shape (b : Nat) (v : Bench) : setBench b v s = { s with benches := (setBench b v s).benches } := rfl

theorem onlyBench_setBench (b : Nat) (v : Bench) : OnlyBench b v s (setBench b v s) :=
  ⟨rfl, bench_setBench_self s b v, fun _ h => bench_setBench_of_ne s v h⟩

/-- Two updates of one bench in a row are an update of that bench. -/
theorem OnlyBench.trans {b : Nat} {x y : Bench} {s t u : State} (h : OnlyBench b x s t) (h' : OnlyBench b y t u) :
    OnlyBench b y s u := by
  obtain ⟨h1, -, h2⟩ := h
  obtain ⟨g1, g2, g3⟩ := h'
  refine ⟨?_, g2, fun k hk => (g3 k hk).trans (h2 k hk)⟩
  rw [g1, h1]

/-- The state as it was moves on by one update of a bench. -/
theorem onlyBench_modBench {b : Nat} {x : Bench} {s t : State} (f : Bench → Bench) (h : OnlyBench b x s t) :
    OnlyBench b (f x) s (modBench b f t) := by
  have g := onlyBench_setBench t b (f (bench t b))
  rw [h.2.1] at g
  exact h.trans (by unfold modBench; rwa [h.2.1])

theorem onlyBench_modStr {b : Nat} {x : Bench} {s t : State} (k : Stream) (f : StreamSt → StreamSt)
    (h : OnlyBench b x s t) : OnlyBench b (x.setStr k (f (x.str k))) s (modStr b k f t) := by
  have g := onlyBench_modBench (fun y => y.setStr k (f (x.str k))) h
  unfold modStr setStr str
  rwa [h.2.1]

/-- An issued instruction moves its stream on, and changes nothing else (R139). -/
theorem onlyBench_advance (b : Nat) (t : Stream) : OnlyBench b ((bench s b).past t) s (advance b t s) :=
  onlyBench_setBench s b _

@[simp] theorem bench_advance (b : Nat) (t : Stream) : bench (advance b t s) b = (bench s b).past t :=
  (onlyBench_advance s b t).2.1
@[simp] theorem rg_advance (b : Nat) (t : Stream) (x : Nat) : rg (advance b t s) x = rg s x := rfl

/-! ### Traps -/

/-- An execution trap changes registers, the queue of events and the token's cause alone (R173). -/
theorem logged_execTrap (b : Nat) (t : Stream) (pc : Nat) (opid : Word) (c : Nat) :
    Logged s (execTrap b t pc opid c s) := by
  unfold execTrap
  refine Logged.benchVoid ?_ b 1
  have h0 : Logged s (satAdd (Rg.BENCH_XTRAP_COUNT b) 1 s) := rfl
  refine Logged.ite s h0 ?_
  have h1 := ((h0.wr (Rg.BENCH_XTRAP_OP b) opid).wr (Rg.BENCH_XTRAP_CAUSE b)
    (word (0x80000000 + strNo t * 0x1000000 + lbench (wr (Rg.BENCH_XTRAP_OP b) opid
      (satAdd (Rg.BENCH_XTRAP_COUNT b) 1 s)) b * 256 + c))).wr (Rg.BENCH_XTRAP_PC b) (word pc)
  exact Logged.ite s h1 (h1.raiseEv _ _ _ _)

/-- The registers that an execution trap may write. -/
theorem rg_execTrap {b x : Nat} (t : Stream) (pc : Nat) (opid : Word) (c : Nat) (h : x ∉ xtrapRegs b) :
    rg (execTrap b t pc opid c s) x = rg s x := by
  simp only [xtrapRegs, List.mem_append, List.mem_cons, List.not_mem_nil, or_false, not_or] at h
  obtain ⟨⟨h1, h2, h3, h4⟩, h5⟩ := h
  unfold execTrap
  rw [rg_benchVoid]
  dsimp only
  split
  · exact rg_satAdd_of_ne _ _ h4
  · split
    · simp [rg_wr_of_ne, rg_satAdd_of_ne, h1, h2, h3, h4]
    · rw [rg_raiseEv _ _ _ _ h5]
      simp [rg_wr_of_ne, rg_satAdd_of_ne, h1, h2, h3, h4]

@[simp] theorem bench_execTrap (b : Nat) (t : Stream) (pc : Nat) (opid : Word) (c k : Nat) :
    bench (execTrap b t pc opid c s) k = bench s k :=
  bench_congr (logged_execTrap s b t pc opid c).benches k

/-! ### Issue -/

/-- A word that keeps an instruction's encoding rules is that instruction's own (R164). -/
theorem otherOp_of_fieldsOk {m : FieldMap} {opc : Nat} {t : Stream} {w : IWord} (h : fieldsOk m opc t w = true) :
    otherOp opc w = false := by
  unfold fieldsOk at h
  simp only [Bool.and_eq_true, beq_iff_eq] at h
  simp [otherOp, h.1.1.1.1.1.1.1.1.1.1.1.1]

/-- What an instruction that issues does (R139): its own effect, after its stream has moved on, and what its issue lets the
prefetcher request (R137). -/
theorem issue_of_issues {sp : ISpec} {b : Nat} {t : Stream} {w : IWord} {s : State} (h : Issues sp b t w s) :
    issue sp b t w s = prefetch b t (str s b t).pc (sp.run b t w (str s b t).pc none (advance b t s)) := by
  obtain ⟨⟨h1, h2, h3, h4, h5⟩, h6, h7⟩ := h
  have hm : liveMark sp (str s b t) w = none := by simp [liveMark, h6]
  have hd : dropMark sp b t w s = s := by simp [dropMark, h6]
  unfold issue
  rw [h1]
  simp only [otherOp_of_fieldsOk h2, h2, h3, h5, h7, hm, hd]
  rw [if_neg (by simp), if_neg (by simp)]
  cases hr : sp.res with
  | none => rw [if_neg (by simp)]
  | some f => simp only [h4 f hr]; rw [if_neg (by simp)]

/-- What the prefetcher requests changes no other bench, no register and no memory (R137). -/
theorem onlyBench_prefetch {b : Nat} {t : Stream} {p : Nat} :
    OnlyBench b ((bench s b).onStr t fun x => { x with reqs := x.reqs ++ prefetchReqs (winBlocks s b t) p x }) s
      (prefetch b t p s) := by
  unfold prefetch
  dsimp only
  split
  · rename_i h
    refine ⟨rfl, ?_, fun _ _ => rfl⟩
    have h' : prefetchReqs (winBlocks s b t) p ((bench s b).str t) = [] := h
    unfold Bench.onStr
    simp only [h', List.append_nil]
    cases t <;> rfl
  · exact onlyBench_setBench s b _

/-- Where the sequencer finds nothing to issue, nothing happens (R139). -/
theorem issue_of_no {sp : ISpec} {b : Nat} {t : Stream} {w : IWord} {s : State} (h : reach s b t w = .no) :
    issue sp b t w s = s := by unfold issue; rw [h]

end Sys2Proof.Machine
end

