-- ==== Sys2Proof/Laws/Memory.lean ====
section
/-! SUPPORT. Laws of local memory: which register writes leave every byte alone, and what a store reads as. -/

namespace Sys2Proof.Machine

variable (s : State)

/-- The commit tables' registers (R228): the only ones that decide where an address lies. -/
def guardReg (a : Nat) : Prop := ∃ j, j < 8 ∧ Pg.JMC j + 0x400 ≤ a ∧ a < Pg.JMC j + 0x808

theorem filterMap_spIns {α β : Type} (f : Nat × α → Option β) (k : Nat) (v : α) (l : List (Nat × α))
    (h : ∀ x, f (k, x) = none) : (spIns k v l).filterMap f = l.filterMap f := by
  induction l with
  | nil => simp [spIns, h]
  | cons e t ih =>
    obtain ⟨k', v'⟩ := e
    unfold spIns
    split
    · rw [List.filterMap_cons_none (h v)]
    · split
      · rename_i hk; subst hk; rw [List.filterMap_cons_none (h v), List.filterMap_cons_none (h v')]
      · simp only [List.filterMap_cons, ih]

theorem filterMap_spDel {α β : Type} (f : Nat × α → Option β) (k : Nat) (l : List (Nat × α))
    (h : ∀ x, f (k, x) = none) : (spDel k l).filterMap f = l.filterMap f := by
  induction l with
  | nil => rfl
  | cons e t ih =>
    obtain ⟨k', v'⟩ := e
    unfold spDel
    split
    · rename_i hk; subst hk; rw [List.filterMap_cons_none (h v'), ih]
    · simp only [List.filterMap_cons, ih]

theorem regionsOf_wr {a j : Nat} (v : Word) (hj : j < 8) (h : ¬ guardReg a) : regionsOf (wr a v s) j = regionsOf s j := by
  have hn : ∀ n, n < 64 → ∀ k, k < 0x10 → a ≠ Pg.JMC j + 0x400 + k + n * 0x10 := by
    intro n hn k hk he; exact h ⟨j, hj, by omega, by omega⟩
  have hr : ∀ n, n < 64 → regionAt (wr a v s) j n = regionAt s j n := by
    intro n hn'
    have h0 : Rg.JMC_GRn_BASE_LO j n ≠ a := by
      have := hn n hn' 0 (by omega); unfold Rg.JMC_GRn_BASE_LO; omega
    have h1 : Rg.JMC_GRn_BASE_HI j n ≠ a := by
      have := hn n hn' 4 (by omega); unfold Rg.JMC_GRn_BASE_HI; omega
    have h2 : Rg.JMC_GRn_CTL j n ≠ a := by
      have := hn n hn' 8 (by omega); unfold Rg.JMC_GRn_CTL; omega
    simp [regionAt, rg_wr_of_ne, h0, h1, h2]
  unfold regionsOf
  have hf : (fun e : Nat × Word =>
      let off := e.1 - Rg.JMC_GRn_CTL j 0
      if Rg.JMC_GRn_CTL j 0 ≤ e.1 ∧ off < 0x400 ∧ off % 16 = 0 ∧ bit e.2 31 = true
        then some (regionAt (wr a v s) j (off / 16)) else none) =
      (fun e : Nat × Word =>
      let off := e.1 - Rg.JMC_GRn_CTL j 0
      if Rg.JMC_GRn_CTL j 0 ≤ e.1 ∧ off < 0x400 ∧ off % 16 = 0 ∧ bit e.2 31 = true
        then some (regionAt s j (off / 16)) else none) := by
    funext e
    dsimp only
    split
    · rename_i hc; rw [hr _ (by omega)]
    · rfl
  rw [hf]
  have hz : ∀ x : Word, (fun e : Nat × Word =>
      let off := e.1 - Rg.JMC_GRn_CTL j 0
      if Rg.JMC_GRn_CTL j 0 ≤ e.1 ∧ off < 0x400 ∧ off % 16 = 0 ∧ bit e.2 31 = true
        then some (regionAt s j (off / 16)) else none) (a, x) = none := by
    intro x
    dsimp only
    rw [if_neg]
    rintro ⟨h1, h2, -, -⟩
    unfold Rg.JMC_GRn_CTL at h1 h2
    exact h ⟨j, hj, by omega, by omega⟩
  show List.filterMap _ (spPut (regReset a) a v s.regs) = _
  unfold spPut
  split
  · exact filterMap_spDel _ _ _ hz
  · exact filterMap_spIns _ _ _ _ hz

theorem jmcOf_lt (a : Nat) : jmcOf a < 8 := Nat.mod_lt _ (by decide)

theorem memLoc_wr {a : Nat} (v : Word) (h : ¬ guardReg a) (x : Nat) : memLoc (wr a v s) x = memLoc s x := by
  unfold memLoc regionOf; rw [regionsOf_wr s v (jmcOf_lt x) h]

theorem memKept_wr {a : Nat} (v : Word) (h : ¬ guardReg a) : MemKept s (wr a v s) := by
  intro x; unfold memByte; rw [memLoc_wr s v h]; rfl

theorem MemKept.refl : MemKept s s := fun _ => rfl
theorem MemKept.trans {s t u : State} (h : MemKept s t) (h' : MemKept t u) : MemKept s u := fun x => (h' x).trans (h x)
theorem MemKept.wr {s t : State} (h : MemKept s t) {a : Nat} (v : Word) (g : ¬ guardReg a) : MemKept s (wr a v t) :=
  h.trans (memKept_wr t v g)

/-- What memory reads as depends on memory, the boot and the registers alone. -/
theorem memKept_of_eq {s t : State} (h1 : t.mem = s.mem) (h2 : t.bootNo = s.bootNo) (h3 : t.regs = s.regs) : MemKept s t := by
  have hr : ∀ j, regionsOf t j = regionsOf s j := by
    intro j
    have hg : rg t = rg s := by funext a; exact rg_congr h3 a
    unfold regionsOf regionAt; rw [h3, hg]
  intro x
  unfold memByte memLoc regionOf
  rw [hr, h1, h2]

theorem OnlyBench.memKept {b : Nat} {x : Bench} {s t : State} (h : OnlyBench b x s t) : MemKept s t := by
  have := h.1
  exact memKept_of_eq (by rw [this]) (by rw [this]) (by rw [this])

/-- No page but a JMC's holds a commit table. -/
theorem not_guardReg_of {cls inst off : Nat} (h : cls < 12) (hi : inst < 256) (ho : off < 0x1000) :
    ¬ guardReg (pageOf cls inst + off) := by
  rintro ⟨j, hj, h1, h2⟩
  unfold Pg.JMC pageOf at *
  omega

theorem not_guardReg_of_gt {cls inst off : Nat} (h : 12 < cls) : ¬ guardReg (pageOf cls inst + off) := by
  rintro ⟨j, hj, h1, h2⟩
  unfold Pg.JMC pageOf at *
  omega

/-- The first 0x400 bytes of a page hold no commit table. -/
theorem not_guardReg_low {p off : Nat} (hp : p % 0x1000 = 0) (ho : off < 0x400) : ¬ guardReg (p + off) := by
  rintro ⟨j, hj, h1, h2⟩
  unfold Pg.JMC pageOf at *
  omega

/-! ### What events and traps leave alone -/

theorem memKept_latchErr {p : Nat} (c w4 : Nat) (hp : p % 0x1000 = 0) : MemKept s (latchErr p c w4 s) := by
  have g (o : Nat) (ho : o < 0x400) : ¬ guardReg (p + o) := not_guardReg_low hp ho
  unfold latchErr
  split
  · exact MemKept.refl s
  · have h : MemKept s (satAdd (Rg.ERR_COUNT p) 1 s) := memKept_wr s _ (g 0x020 (by decide))
    dsimp only
    split
    · exact h
    · exact (h.wr _ (g _ (by decide))).wr _ (g _ (by decide))

/-- An event changes no byte of memory. -/
theorem memKept_raiseEv {p : Nat} (c w4 w5 : Nat) (hp : p % 0x1000 = 0) : MemKept s (raiseEv p c w4 w5 s) := by
  have h := memKept_latchErr s c w4 hp
  have g : ¬ guardReg (Rg.HEALTH p) := not_guardReg_low hp (by decide)
  unfold raiseEv
  dsimp only
  split <;> split <;>
    first
      | exact h.trans (memKept_of_eq rfl rfl rfl)
      | exact (h.wr _ g).trans (memKept_of_eq rfl rfl rfl)

theorem memKept_benchVoid (b k : Nat) : MemKept s (benchVoid b k s) := by
  rw [benchVoid_shape]; exact memKept_of_eq rfl rfl rfl

/-- An execution trap changes no byte of memory. -/
theorem memKept_execTrap {b : Nat} (t : Stream) (pc : Nat) (opid : Word) (c : Nat) :
    MemKept s (execTrap b t pc opid c s) := by
  have hp : Pg.BENCH b % 0x1000 = 0 := by unfold Pg.BENCH pageOf; omega
  have g (o : Nat) (ho : o < 0x400) : ¬ guardReg (Pg.BENCH b + o) := not_guardReg_low hp ho
  unfold execTrap
  refine MemKept.trans ?_ (memKept_benchVoid _ b 1)
  have h : MemKept s (satAdd (Rg.BENCH_XTRAP_COUNT b) 1 s) := memKept_wr s _ (g _ (by decide))
  dsimp only
  split
  · exact h
  · split
    · exact ((h.wr _ (g _ (by decide))).wr _ (g _ (by decide))).wr _ (g _ (by decide))
    · exact (((h.wr _ (g _ (by decide))).wr _ (g _ (by decide))).wr _ (g _ (by decide))).trans (memKept_raiseEv _ _ _ _ hp)

/-- Bytes put into memory are read back (R209, R212), where no guarded region or relocation moves their addresses. -/
theorem memBytes_memPutAll (l : List Byte) (a : Nat) (s : State) (h : ∀ i, i < l.length → memLoc s (a + i) = a + i) :
    memBytes (memPutAll a l s) a l.length = l := by
  have key : ∀ (l : List Byte) (a : Nat) (s : State), (∀ i, i < l.length → memLoc s (a + i) = a + i) →
      (∀ x, memLoc (memPutAll a l s) x = memLoc s x) ∧ (∀ x, x < a → memLoc s x = x → memByte (memPutAll a l s) x = memByte s x) ∧
      ∀ i, i < l.length → memByte (memPutAll a l s) (a + i) = l.getD i 0 := by
    intro l
    induction l with
    | nil => intro a s _; exact ⟨fun _ => rfl, fun _ _ _ => rfl, fun i h => absurd h (by simp)⟩
    | cons v l ih =>
      intro a s h
      have hp : ∀ x, memLoc (memPut a v s) x = memLoc s x := fun x => rfl
      obtain ⟨i1, i2, i3⟩ := ih (a + 1) (memPut a v s) (fun i hi => by
        rw [hp, show a + 1 + i = a + (i + 1) by omega]; exact h (i + 1) (by simpa using hi))
      have h0 : memLoc s a = a := h 0 (by simp)
      have hb : ∀ x, x ≠ a → memLoc s x = x → memByte (memPut a v s) x = memByte s x := by
        intro x hx hl
        unfold memByte memPut; dsimp only
        rw [show memLoc { s with mem := spIns (memLoc s a) v s.mem, memBad := s.memBad.erase (memLoc s a / 16) } x = memLoc s x from rfl,
          hl, h0, spFind_spIns, if_neg hx]
      refine ⟨fun x => by rw [memPutAll, i1, hp], fun x hx hl => ?_, fun i hi => ?_⟩
      · rw [memPutAll, i2 x (by omega) (by rw [hp]; exact hl)]; exact hb x (by omega) hl
      · cases i with
        | zero =>
          rw [memPutAll, i2 (a + 0) (by omega) (by rw [hp]; exact h0)]
          unfold memByte memPut; dsimp only
          rw [show memLoc { s with mem := spIns (memLoc s a) v s.mem, memBad := s.memBad.erase (memLoc s a / 16) } (a + 0) = memLoc s a from rfl,
            h0, spFind_spIns, if_pos rfl]; rfl
        | succ i =>
          rw [memPutAll, show a + (i + 1) = a + 1 + i by omega, i3 i (by simpa using hi)]; rfl
  obtain ⟨_, _, k⟩ := key l a s h
  apply List.ext_getElem
  · simp [memBytes]
  · intro i h1 h2
    have := k i h2
    simp [memBytes, this, List.getD_eq_getElem?_getD, h2]

theorem memPut_shape (a : Nat) (v : Byte) : memPut a v s = { s with mem := (memPut a v s).mem, memBad := (memPut a v s).memBad } := rfl
/-- Bytes put into memory change memory and the uncorrectable blocks alone. -/
theorem memPutAll_shape (l : List Byte) : ∀ (a : Nat) (s : State),
    memPutAll a l s = { s with mem := (memPutAll a l s).mem, memBad := (memPutAll a l s).memBad } := by
  induction l with
  | nil => intro a s; rfl
  | cons v l ih => intro a s; unfold memPutAll; rw [ih (a + 1) (memPut a v s)]; rfl

/-- What memory lists after bytes are put into it: what it listed, and the locations of the bytes. -/
theorem mem_memPutAll (l : List Byte) : ∀ (a : Nat) (s : State) (e : Host.Cell), e ∈ (memPutAll a l s).mem →
    e ∈ s.mem ∨ ∃ i, i < l.length ∧ e.1 = memLoc s (a + i) := by
  induction l with
  | nil => intro a s e h; exact .inl h
  | cons v l ih =>
    intro a s e h
    unfold memPutAll at h
    rcases ih (a + 1) (memPut a v s) e h with h | ⟨i, hi, he⟩
    · rcases mem_spIns h with h | h
      · exact .inr ⟨0, by simp, by rw [h]; rfl⟩
      · exact .inl h
    · exact .inr ⟨i + 1, by simpa using hi, by rw [he, show a + 1 + i = a + (i + 1) by omega]; rfl⟩

/-- No block becomes uncorrectable by a write. -/
theorem memBad_memPutAll (l : List Byte) : ∀ (a : Nat) (s : State) (k : Nat), k ∈ (memPutAll a l s).memBad → k ∈ s.memBad := by
  induction l with
  | nil => intro a s k h; exact h
  | cons v l ih => intro a s k h; unfold memPutAll at h; exact List.mem_of_mem_erase (ih (a + 1) (memPut a v s) k h)

/-- Little-endian bytes of a value that they hold (R5). -/
theorem leNat_leBytes : ∀ n x : Nat, x < 256 ^ n → leNat (leBytes n x) = x := by
  intro n
  induction n with
  | zero => intro x h; simp at h; subst h; rfl
  | succ n ih =>
    intro x h
    have h' : x / 256 < 256 ^ n := by
      rw [Nat.pow_succ] at h; exact Nat.div_lt_of_lt_mul (by omega)
    simp only [leBytes, leNat, ih _ h', BitVec.toNat_ofNat]
    omega
@[simp] theorem length_leBytes (n x : Nat) : (leBytes n x).length = n := by
  induction n generalizing x with
  | zero => rfl
  | succ n ih => simp [leBytes, ih]

end Sys2Proof.Machine
end

