-- ==== Sys2Proof/Laws/Wire.lean ====
section
/-! SUPPORT. Laws of slots on the wire: the symbols of the lanes give back the bytes that they carry. -/

namespace Sys2Proof.Machine

theorem length_byteSyms (b : Byte) : (byteSyms b).length = 4 := rfl

/-- A byte is read back from its four symbols. -/
theorem symsByte_byteSyms (b : Byte) : symsByte (byteSyms b) = b := by
  have h : ∀ n : Fin 256, symsByte (byteSyms (BitVec.ofNat 8 n)) = BitVec.ofNat 8 n := by decide +kernel
  have := h ⟨b.toNat, b.isLt⟩
  simpa using this

/-- Block `i` of a list of blocks of `m` items each. -/
theorem flatMap_block {α β : Type} {m : Nat} {f : α → List β} (hf : ∀ x, (f x).length = m) :
    ∀ (l : List α) (i : Nat) (h : i < l.length), ((l.flatMap f).drop (m * i)).take m = f l[i]
  | [], i, h => absurd h (Nat.not_lt_zero i)
  | x :: t, 0, _ => by simp [List.take_left' (hf x)]
  | x :: t, i + 1, h => by
    rw [List.flatMap_cons, show m * (i + 1) = m + m * i from by rw [Nat.mul_succ, Nat.add_comm], ← List.drop_drop,
      List.drop_left' (hf x), flatMap_block hf t i (by simpa using h)]
    rfl

theorem length_word {bs : List Byte} (h : bs.length = 1600) {w : Nat} (hw : w < 400) : ((bs.drop (4 * w)).take 4).length = 4 := by
  rw [List.length_take, List.length_drop, h]; omega

/-- The symbols of word `8 * i + j` in lane `j`, and of its byte `k`. -/
theorem laneSyms_byte {bs : List Byte} (h : bs.length = 1600) {i j k : Nat} (hi : i < 50) (hj : j < 8) (hk : k < 4) :
    ((((laneSyms bs j).drop (16 * i)).drop (4 * k)).take 4) = byteSyms (bs.getD (4 * (8 * i + j) + k) 0) := by
  have hb : ∀ x : Nat, x < 50 → (((bs.drop (4 * (8 * x + j))).take 4).flatMap byteSyms).length = 16 := fun x hx => by
    have e := length_word h (w := 8 * x + j) (by omega)
    match (bs.drop (4 * (8 * x + j))).take 4, e with
    | [a, b, c, d], _ => rfl
  have hm : ((laneSyms bs j).drop (16 * i)).take 16 = ((bs.drop (4 * (8 * i + j))).take 4).flatMap byteSyms := by
    rw [laneSyms]
    have g := flatMap_block (m := 16) (f := fun x : Fin 50 => ((bs.drop (4 * (8 * x.val + j))).take 4).flatMap byteSyms)
      (fun x => hb x.val x.isLt) (List.finRange 50) i (by simpa using hi)
    have r : (List.range 50).flatMap (fun x => ((bs.drop (4 * (8 * x + j))).take 4).flatMap byteSyms) =
        (List.finRange 50).flatMap (fun x : Fin 50 => ((bs.drop (4 * (8 * x.val + j))).take 4).flatMap byteSyms) := by
      rw [← List.map_coe_finRange_eq_range, List.flatMap_map]
    rw [r, g]; simp
  have e4 : ∀ l : List Nat, ((l.drop (4 * k)).take 4) = (((l.take 16).drop (4 * k)).take 4) := fun l => by
    rw [List.drop_take, List.take_take, Nat.min_eq_left (by omega)]
  rw [e4, hm]
  have l4 := length_word h (w := 8 * i + j) (by omega)
  have g := flatMap_block (m := 4) length_byteSyms ((bs.drop (4 * (8 * i + j))).take 4) k (by rw [l4]; exact hk)
  rw [g]
  congr 1
  rw [List.getElem_take, List.getElem_drop, List.getD_eq_getElem?_getD, List.getElem?_eq_getElem (by omega)]
  rfl

/-- The bytes of a slot come back from the symbols that the lanes of the straight map carry (R264). -/
theorem lanesBytes_physLanes {bs : List Byte} (h : bs.length = 1600) :
    lanesBytes (List.range 8) (physLanes (List.range 8) bs) = bs := by
  have hp : ∀ w, w < 8 → (physLanes (List.range 8) bs).getD ((List.range 8).getD w 0) [] = laneSyms bs w := fun w hw => by
    interval_cases w <;> rfl
  have hw : ∀ w, w ∈ List.range 400 → (fun w =>
      let l := ((physLanes (List.range 8) bs).getD ((List.range 8).getD (w % 8) 0) []).drop (16 * (w / 8))
      (List.range 4).map fun i => symsByte ((l.drop (4 * i)).take 4)) w = (List.range 4).map fun i => bs.getD (4 * w + i) 0 := by
    intro w hm
    have hm := List.mem_range.1 hm
    dsimp only
    rw [hp _ (Nat.mod_lt _ (by omega))]
    refine List.map_congr_left fun i hi => ?_
    have hi := List.mem_range.1 hi
    rw [laneSyms_byte h (by omega) (Nat.mod_lt _ (by omega)) hi, symsByte_byteSyms,
      show 4 * (8 * (w / 8) + w % 8) + i = 4 * w + i by omega]
  rw [lanesBytes, List.flatMap_congr hw]
  apply List.ext_getElem
  · simp only [List.length_flatMap, List.length_map, List.length_range, List.map_const', List.sum_replicate, h, smul_eq_mul]
  · intro n h1 h2
    have hn : n < 1600 := by omega
    have g := flatMap_block (m := 4) (f := fun w => (List.range 4).map fun i => bs.getD (4 * w + i) 0) (fun _ => by simp) (List.range 400)
      (n / 4) (by rw [List.length_range]; omega)
    have g' := congrArg (fun l => l[n % 4]?) g
    simp only [List.getElem?_take, List.getElem?_drop, List.getElem_range, List.getElem?_map] at g'
    rw [if_pos (Nat.mod_lt _ (by omega)), show 4 * (n / 4) + n % 4 = n by omega, List.getElem?_eq_getElem h1,
      List.getElem?_range (Nat.mod_lt _ (by omega)), Option.map_some, Option.some.injEq,
      show 4 * (n / 4) + n % 4 = n by omega] at g'
    rw [g', List.getD_eq_getElem?_getD, List.getElem?_eq_getElem h2]; rfl

end Sys2Proof.Machine
end

