-- ==== Sys2Proof/Tests/Slice0.lean ====
section
/-! SUPPORT. Tests: for every statement with hypotheses, a state and operands that meet them; ill-formed commands that the check refuses; and
values that the spec works out in its examples. -/

open Sys2Proof Sys2Proof.Machine

namespace Sys2Proof.Tests

set_option Elab.async false

/-! ### Small states -/

/-- The `bs` at `a` and after, as the list that memory and trays are. -/
def cells (a : Nat) (bs : List Nat) : Sparse Byte := (bs.zipIdx.filter (·.1 ≠ 0)).map fun p => (a + p.2, BitVec.ofNat 8 p.1)
/-- The bytes of words of 4 bytes. -/
def words4 (l : List Nat) : List Nat := l.flatMap fun v => (List.range 4).map fun i => v / 256 ^ i % 256
/-- A stream descriptor (Table 7-3) of `n` elements of format `f` at `a`, of 128 rows by 96 columns where it has them. -/
def sd (k f a n : Nat) (lines : Nat := 0) : Sparse Byte := cells (32 * k) (words4 [f * 2 ^ 24 + a, n, 0, lines * 2 ^ 16, 1, 128])
/-- A transfer descriptor (Table 7-4) of one row of `n` bytes between memory `m` and tray `a`. -/
def td (k m a n : Nat) (peer : Nat := 0) : Sparse Byte :=
  cells (32 * k) (words4 [m % 2 ^ 32, m / 2 ^ 32, 2 ^ 24 + a, n, 1, 0, 0, peer])

/-- A bench whose stream F is in RUN at the one word of its first block, with every resource granted to F. -/
def onWord (w : IWord) (x : Bench := {}) : Bench :=
  { x with dt := [0], f := { x.f with state := .run, blocks := [{ num := 0, closed := false, bad := [], words := [iwBits w] }] } }
/-- A chip in RUN with that bench as physical and logical bench 0, and bench 1 beside it. -/
def onState (w : IWord) (x : Bench := {}) (s : State := {}) : State :=
  { s with chip := .run, stepSt := .run, benchMap := [0, 1], benches := [(0, onWord w x)] }

/-- Registers as given, the others of `s`. -/
def setRegs (l : List (Nat × Word)) (s : State := {}) : State := l.foldl (fun s p => wr p.1 p.2 s) s

/-- The conditions of `Issues`, as a test can run them. -/
def issuesNow (sp : ISpec) (w : IWord) (s : State) : Bool :=
  decide (reach s 0 .f w = .word) && fieldsOk sp.map sp.opc .f w && sp.legal 0 w s &&
    (sp.res.all fun f => granted (bench s 0) .f f) && (sp.hold 0 .f w s).isNone && (str s 0 .f).mark.isNone &&
    (lowest (sp.rules 0 .f w s)).isNone

theorem issues_of_now {sp : ISpec} {w : IWord} {s : State} (h : issuesNow sp w s = true) : Issues sp 0 .f w s := by
  simp only [issuesNow, Bool.and_eq_true, decide_eq_true_eq, Option.isNone_iff_eq_none] at h
  obtain ⟨⟨⟨⟨⟨⟨h1, h2⟩, h3⟩, h4⟩, h5⟩, h6⟩, h7⟩ := h
  exact ⟨⟨h1, h2, h3, fun f hf => by simpa [hf] using h4, h5⟩, h6, h7⟩

/-- Descriptors of four FP32 streams of one element. -/
def tray4 : Sparse Byte := sd 0 1 4096 1 ++ sd 1 1 8192 1 ++ sd 2 1 10240 1 ++ sd 3 1 12288 1
/-- The same with In0 in `f` and Out in `g`. -/
def trayIo (f g : Nat) : Sparse Byte := sd 0 f 4096 1 ++ sd 1 1 8192 1 ++ sd 2 1 10240 1 ++ sd 3 g 12288 1
def on4 (w : IWord) : State := onState w { tray := tray4 }

/-- Context 1 valid and ACTIVE outside the step, its peer member 0, with whatever else `v` adds to its first word. -/
def ctx1 (v : Nat) : State := setRegs [(ctxReg 1 0, word (0x88000000 + v)), (ctxReg 1 6, 0x40000000)]

/-- A transfer of one row of 32 bytes between memory at 2^33 and the tray. -/
def xfer32 (m peer : Nat) : TDesc :=
  { maddr := m, fmt := 1, taddr := 4096, rowLen := 32, rows := 1, mstride := 0, tstride := 0, peer := peer, idx := 0,
    saddr := 0, msaddr := 0, resv := false }
def ticketAs (op : TktOp) (td : Option TDesc) (sb : Option (Nat × Nat)) (left : Nat := 0) : Ticket :=
  { n := 63, stream := .f, pc := 0, opid := 1, op := op, bc := 1, cc := none, td := td, sb := sb, status := .ok, flow := none, tag := 5,
    left := left }
/-- Bench 0 with one ticket, number 63. -/
def holding (k : Ticket) (x : Bench := {}) : State := { chip := .run, benchMap := [0, 1], benches := [(0, { x with tickets := [k] })] }

/-- A flit alone in spline 0, arrived in the slot at 4096 as `s` reaches it, that passes every check. -/
theorem passes_of {g : Nat} {f : Flit} {s : State} (h1 : (spline s 0).rxq = [(g, f)])
    (h2 : (flowCheck f (modSpline 0 (fun x => { x with rxq := [] }) s)).1 = true) (h3 : destOk s f = true)
    (h4 : freshOk s g f = true) : Passes 0 g f s (flowCheck f (modSpline 0 (fun x => { x with rxq := [] }) s)).2 :=
  ⟨⟨[], h1, Prod.ext h2 rfl⟩, h3, h4⟩
def arrived (f : Flit) (s : State) : State := { s with gauge := 4096, splines := [(0, { rxq := [(4096, f)] })] }
def flitOf (t : FlitType) (pay : List Byte := []) (last : Bool := true) : Flit := { typ := t, flow := 1, sg := 4096, pay := pay, last := last }
def token (clean : Bool) : Token :=
  { clean := clean, origin := 1, epoch := 0, step := 0, wsum := 0, count := 1, cause := 0, first := none }


/-- The conditions of `PageOpen` and `CmdOpen`, as a test can run them. -/
def pageNow (p : Nat) (s : State) : Bool :=
  manageable s && !fencedDom s (pageFenceDom (regCls p) (regInst p)) && bit (rg s Rg.PLUMB_STAT) 29
theorem pageOpen_of {p : Nat} {s : State} (h : pageNow p s = true) : PageOpen p s := by
  simp only [pageNow, Bool.and_eq_true, Bool.not_eq_true'] at h
  exact ⟨h.1.1, h.1.2, h.2⟩
def cmdNow (l : List ChipState) (s : State) : Bool := pageNow Pg.CHIP s && l.contains s.chip && !cmdBusy s
theorem cmdOpen_of {l : List ChipState} {s : State} (h : cmdNow l s = true) : CmdOpen l s := by
  simp only [cmdNow, Bool.and_eq_true, Bool.not_eq_true', List.contains_iff_mem] at h
  exact ⟨pageOpen_of h.1.1, h.1.2, h.2⟩

/-! ### Witnesses: bench instructions -/

theorem witness_WordsThatDoNotRun :
    (Instr.nop 131 .u {}, spNop) ∈ benchInstrs 131 .u {} ∧ reach {} 131 .u {} = .no ∧
    ((Instr.seal 0 .f { opc := 6 }, spSeal) ∈ benchInstrs 0 .f { opc := 6 } ∧ reach (onState { opc := 5 }) 0 .f { opc := 6 } = .no) := by
  refine ⟨by simp [benchInstrs], by decide, by simp [benchInstrs], by decide⟩
/-- A TILE on a bench whose dovetail table grants the array to stream U alone. -/
theorem witness_WordsThatWait : let w : IWord := { opc := 0x20 }
    let s : State := { on4 w with benches := [(0, { onWord w { tray := tray4 } with dt := [0xFFFE] })] }
    (Instr.tile 0 .f w, spTile) ∈ benchInstrs 0 .f w ∧ reach s 0 .f w = .word ∧ fieldsOk spTile.map spTile.opc .f w = true ∧
      spTile.legal 0 w s = true ∧ spTile.res = some dtArray ∧ granted (bench s 0) .f dtArray = false := by
  refine ⟨by simp [benchInstrs], by decide, by decide, by decide, rfl, by decide⟩
/-- A NOP with a nonzero op ID is ILLEGAL; a TILE whose descriptors name format 0x7F breaks Table 7-6. -/
theorem witness_WordsThatTrap :
    (let w : IWord := { opid := 1 }
     reach (onState w) 0 .f w = .word ∧ (str (onState w) 0 .f).mark = none ∧ fieldsOk spNop.map spNop.opc .f w = false) ∧
    (let w : IWord := { opc := 0x20 }
     let s := onState w { tray := sd 0 0x7F 4096 1 ++ sd 1 1 8192 1 }
     Judged spTile 0 .f w s ∧ lowest (spTile.rules 0 .f w s) = some xDesc) ∧
    (let s := onState {} { f := { mark := some { copy := false, tag := 255, partner := 1 } } }
     Judged spNop 0 .f {} s ∧ (str s 0 .f).mark = some { copy := false, tag := 255, partner := 1 }) := by
  refine ⟨by decide, ⟨⟨by decide, by decide, by decide, fun f h => ?_, by decide +kernel⟩, by decide +kernel⟩,
    ⟨by decide, by decide, by decide, fun f h => (nomatch h), by decide⟩, by decide⟩
  cases h; decide

theorem witness_ControlInstructions :
    Issues spNop 0 .f {} (onState {}) ∧
    (let w : IWord := { opc := 1, imm := 16383, opid := 0 }; Issues spLoop 0 .f w (onState w)) ∧
    (let w : IWord := { opc := 2 }; let s := onState w { f := { loops := [{ start := 0, cnt := 1, len := 1 }] } }
     Issues spEndl 0 .f w s ∧ (str s 0 .f).loops = [{ start := 0, cnt := 1, len := 1 }]) ∧
    (let w : IWord := { opc := 2 }; let s := onState w { f := { loops := [{ start := 0, cnt := 2, len := 1 }] } }
     Issues spEndl 0 .f w s ∧ (str s 0 .f).loops = [{ start := 0, cnt := 2, len := 1 }]) ∧
    (let w : IWord := { opc := 6 }; Issues spSeal 0 .f w (onState w)) ∧
    (let w : IWord := { opc := 4, imm := 7 }; let s := onState w {} (setRegs [(Rg.HOLD_FREEZE_CTL, 0x80000007)])
     Issues spHoldpt 0 .f w s ∧ inTest s 0 = false ∧ freezeArmed s w.imm.toNat = true) ∧
    (let w : IWord := { opc := 4, imm := 8 }; let s := onState w {} (setRegs [(Rg.HOLD_FREEZE_CTL, 0x80000007)])
     Issues spHoldpt 0 .f w s ∧ freezeArmed s w.imm.toNat = false) ∧
    (let w : IWord := { opc := 5, opid := 9 }; let s := onState w; Issues spTrap 0 .f w s ∧ inTest s 0 = false ∧ stepLive s = true ∧
     bit (rg s (Rg.BENCH_XTRAP_CAUSE 0)) 31 = false) ∧
    (let w : IWord := { opc := 5, opid := 9 }; let s := onState w {} (setRegs [(Rg.BENCH_XTRAP_CAUSE 0, 0x80000001)])
     Issues spTrap 0 .f w s ∧ bit (rg s (Rg.BENCH_XTRAP_CAUSE 0)) 31 = true) :=
  ⟨issues_of_now (by decide), issues_of_now (by decide), ⟨issues_of_now (by decide), by decide⟩, ⟨issues_of_now (by decide), by decide⟩,
   issues_of_now (by decide), ⟨issues_of_now (by decide +kernel), by decide +kernel, by decide +kernel⟩,
   ⟨issues_of_now (by decide +kernel), by decide +kernel⟩, ⟨issues_of_now (by decide), by decide, by decide, by decide⟩,
   issues_of_now (by decide +kernel), by decide +kernel⟩

/-- A mark that has just passed, and the first that has not. -/
theorem witness_WaitgWaits : let w : IWord := { opc := 3, opid := 5 }
    (Issues spWaitg 0 .f w (onState w {} { gauge := 5 }) ∧ iwLow w ≤ (5 : DWord)) ∧
    (Issues spWaitg 0 .f w (onState w {} { gauge := 4 }) ∧ ¬ iwLow w ≤ (4 : DWord)) ∧
    isFrozen ({ frozen := true } : State) = true ∧ isFrozen (onState w) = false ∧ 0 ∈ (onState w).benchMap :=
  ⟨⟨issues_of_now (by decide), by decide⟩, ⟨issues_of_now (by decide), by decide⟩, by decide, by decide, by decide⟩

theorem witness_ClampInstructions :
    (let w : IWord := { opc := 0x10, cq := 255, imm := 0xFFFF }; Issues spClset 0 .f w (onState w)) ∧
    (let w : IWord := { opc := 0x10, g := true, cq := 63 }; Issues spClset 0 .f w (onState w)) ∧
    (let w : IWord := { opc := 0x11, g := true, cq := 63 }; Issues spCladd 0 .f w (onState w)) ∧
    (let w : IWord := { opc := 0x11, cq := 255 }; Issues spCladd 0 .f w (onState w)) ∧
    (let w : IWord := { opc := 0x12, imm := 0 }; Issues spClwait 0 .f w (onState w)) ∧
    (let w : IWord := { opc := 0x12, imm := 0xFFFF, mod := 1 }; Issues spClwait 0 .f w (onState w)) :=
  ⟨issues_of_now (by decide), issues_of_now (by decide), issues_of_now (by decide), issues_of_now (by decide),
   issues_of_now (by decide), issues_of_now (by decide)⟩

/-- A clamp at 0xFFFE that an add carries to 0xFFFF, and one that it carries past it. -/
theorem witness_ClampUpdates :
    clampSum 0xFFFE [{ n := 0, src := none, v := 1 }] ≤ 0xFFFF ∧ 0xFFFF < clampSum 0xFFFE [{ n := 0, src := none, v := 2 }] ∧
    ([0, 1] : List Nat).Nodup := by decide

theorem witness_Queues :
    (let w : IWord := { opc := 0x13, cq := 31 }; Issues spQpush 0 .f w (onState w)) ∧
    (let w : IWord := { opc := 0x13, mod := 1, aux := 1 }; Issues spQpush 0 .f w (onState w) ∧ w.mod.getLsbD 0 = true) ∧
    (let w : IWord := { opc := 0x14, cq := 31 }; Issues spQpop 0 .f w (onState w { queues := [(31, [7])] })) ∧
    (bench ({ benches := [(0, { flights := [{ q := 31, v := 7 }] })] } : State) 0).flights = [{ q := 31, v := 7 }] ∧
    (let w : IWord := { opc := 0x13, cq := 31 }; let s := onState w { queues := [(31, List.replicate 16 0)] }
     reach s 0 .f w = .word ∧ fieldsOk spQpush.map 0x13 .f w = true ∧ spQpush.legal 0 w s = true ∧ pushTarget s 0 w = some 0 ∧
       16 ≤ queueLoad (bench s 0) w.cq.toNat) ∧
    (let w : IWord := { opc := 0x14 }; reach (onState w) 0 .f w = .word ∧ fieldsOk spQpop.map 0x14 .f w = true ∧
       spGet [] w.cq.toNat (bench (onState w) 0).queues = []) :=
  ⟨issues_of_now (by decide), ⟨issues_of_now (by decide), by decide⟩, issues_of_now (by decide), by decide, by decide +kernel,
   by decide⟩

theorem witness_Tile : let w : IWord := { opc := 0x20 }
    Issues spTile 0 .f w (on4 w) ∧ bit (rg (on4 w) (Rg.BENCH_TRY_INJ 0)) 31 = false :=
  ⟨issues_of_now (by decide +kernel), by decide⟩

/-- With a free outfeed entry, and with none. -/
def full4 : List OfEntry := List.replicate 4
  { info := infoOf {} 0, saddr := 0, rows := 0, prod := false, suspect := false, visible := false, data := [] }
theorem witness_Accumulators :
    (let w : IWord := { opc := 0x21 }; Issues spTclr 0 .f w (onState w)) ∧
    (let w : IWord := { opc := 0x22 }; Issues spTdrain 0 .f w (on4 w) ∧ (bench (on4 w) 0).outfeed.length < 4) ∧
    (let w : IWord := { opc := 0x22 }; let s := onState w { tray := tray4, outfeed := full4 }
     Issues spTdrain 0 .f w s ∧ 4 ≤ (bench s 0).outfeed.length) ∧
    (let w : IWord := { opc := 0x23 }; Issues spTtap 0 .f w (onState w { tray := trayIo 0 1 })) ∧
    (let w : IWord := { opc := 0x23, mod := 8 }; Issues spTtap 0 .f w (on4 w)) :=
  ⟨issues_of_now (by decide), ⟨issues_of_now (by decide +kernel), by decide +kernel⟩,
   ⟨issues_of_now (by decide +kernel), by decide +kernel⟩, issues_of_now (by decide +kernel), issues_of_now (by decide +kernel)⟩

/-- A TDRAIN, and a HADA PROD with one entry, that wait for an outfeed entry; and a hidden entry, the last of its instruction or not. -/
def drainOf (td : Bool) (es : List OfEntry) : Drain :=
  { stream := .f, pc := 0, tdrain := td, accB := false, info := infoOf {} 0, saddr := 0, draws := drawsOf {} .rne false 0, cc := none,
    entries := es, count := 1, wit := 0, reads := [] }
def endOf (last : Bool) : EntryEnd := { last := last, str := .f, reads := [], opid := 0, fmt := 1, count := 1, wit := 0, cc := none }
theorem witness_Outfeed :
    let e : OfEntry := { info := infoOf {} 0, saddr := 0, rows := 0, prod := false, suspect := false, visible := false, data := [] }
    (let s : State := { benches := [(0, { drain := some (drainOf true []) })] }
     isFrozen s = false ∧ (bench s 0).drain = some (drainOf true []) ∧ (bench s 0).outfeed.length < 4) ∧
    (let s : State := { benches := [(0, { drain := some (drainOf false [e]) })] }
     (bench s 0).drain = some (drainOf false [e]) ∧ (drainOf false [e]).entries ≠ []) ∧
    ∀ last : Bool,
      let s : State := { benches := [(0, { outfeed := [{ e with visible := true }, e, e], reading := [endOf last, endOf true] })] }
      (bench s 0).reading = endOf last :: [endOf true] ∧ (bench s 0).outfeed = [{ e with visible := true }] ++ e :: [e] ∧
        (endOf last).last = last := by decide +kernel

theorem witness_Hada :
    (let w : IWord := { opc := 0x24, mod := 4 }; Issues spHada 0 .f w (on4 w) ∧ w.mod.getLsbD 2 = true) ∧
    (let w : IWord := { opc := 0x24 }; Issues spHada 0 .f w (on4 w) ∧ (readDesc (bench (on4 w) 0) 0 0).count ≠ 0 ∧
      (bench (on4 w) 0).outfeed.length < 4) ∧
    (let w : IWord := { opc := 0x24 }; let s := onState w { tray := tray4, outfeed := full4 }
     Issues spHada 0 .f w s ∧ 4 ≤ (bench s 0).outfeed.length) ∧
    (let w : IWord := { opc := 0x24 }; let s := onState w { tray := sd 0 1 4096 0 ++ sd 1 1 8192 0 ++ sd 2 1 10240 0 }
     Issues spHada 0 .f w s ∧ (readDesc (bench s 0) 0 0).count = 0) :=
  ⟨⟨issues_of_now (by decide +kernel), by decide⟩, ⟨issues_of_now (by decide +kernel), by decide +kernel, by decide⟩,
   ⟨issues_of_now (by decide +kernel), by decide +kernel⟩, issues_of_now (by decide +kernel), by decide +kernel⟩

theorem witness_ElementWise :
    (let w : IWord := { opc := 0x30 }; Issues spVop 0 .f w (on4 w)) ∧
    (let w : IWord := { opc := 0x31 }; Issues spVfma 0 .f w (on4 w)) ∧
    (let w : IWord := { opc := 0x35 }; Issues spVcvt 0 .f w (on4 w)) ∧
    (let w : IWord := { opc := 0x36 }; Issues spVtrf 0 .f w (on4 w)) ∧
    (let w : IWord := { opc := 0x38 }; Issues spVven 0 .f w (onState w { tray := trayIo 1 0x20 })) ∧
    (let w : IWord := { opc := 0x39 }; Issues spVunv 0 .f w (onState w { tray := trayIo 0x20 1 })) ∧
    (let w : IWord := { opc := 0x37 }; Issues spVgrain 0 .f w (onState w { tray := trayIo 1 0 }) ∧ plFn w ≠ 7) ∧
    (let w : IWord := { opc := 0x37, aux := 0x700 }; Issues spVgrain 0 .f w (on4 w) ∧ plFn w = 7) :=
  ⟨issues_of_now (by decide +kernel), issues_of_now (by decide +kernel), issues_of_now (by decide +kernel),
   issues_of_now (by decide +kernel), issues_of_now (by decide +kernel), issues_of_now (by decide +kernel),
   ⟨issues_of_now (by decide +kernel), by decide⟩, issues_of_now (by decide +kernel), by decide⟩

theorem witness_PlaneOutput : let os : List POut := [{ p := 0, live := true, idx := 0, bits := 1 }, { p := 1, live := false, idx := 1 }]
    fmtBlock 1 = 0 ∧ (∀ o, o ∈ os → o.p < 2) ∧ 0 < fmtWidth 1 ∧ (os.map (·.p)).Nodup := by decide

theorem witness_ReductionsAndScans :
    (let w : IWord := { opc := 0x32, aux := 0x100, imm := 4 }; Issues spVred 0 .f w (onState w { tray := tray4 ++ cells 128 [1] })) ∧
    (let w : IWord := { opc := 0x33, aux := 0x100, imm := 4 }; Issues spVscan 0 .f w (on4 w)) ∧
    (let w : IWord := { opc := 0x34, imm := 4 }; Issues spVascan 0 .f w (on4 w)) :=
  ⟨issues_of_now (by decide +kernel), issues_of_now (by decide +kernel), issues_of_now (by decide +kernel)⟩

/-- The ring off; on with room; on and full, with 2^8 records of which none is read. -/
theorem witness_Witness : let w : IWord := { opc := 0x3A }
    let on (v : Word) : State := onState w { tray := tray4 } (setRegs [(Rg.SEAL_WIT_CTRL, 0x80100), (Rg.SEAL_WRING_BASE_HI, 2),
      (Rg.SEAL_WRING_WR, v)])
    Issues spWitness 0 .f w (on4 w) ∧ bit (rg (on4 w) Rg.SEAL_WIT_CTRL) 8 = false ∧
    Issues spWitness 0 .f w (on 255) ∧ bit (rg (on 255) Rg.SEAL_WIT_CTRL) 8 = true ∧
      (rg (on 255) Rg.SEAL_WRING_WR - rg (on 255) Rg.SEAL_WRING_RD).toNat ≠ 2 ^ bits (rg (on 255) Rg.SEAL_WIT_CTRL) 20 16 ∧
      unitWriteOk (on 255) (witSlot (on 255)) 32 = true ∧
    (rg (on 256) Rg.SEAL_WRING_WR - rg (on 256) Rg.SEAL_WRING_RD).toNat = 2 ^ bits (rg (on 256) Rg.SEAL_WIT_CTRL) 20 16 := by
  refine ⟨issues_of_now (by decide +kernel), by decide, issues_of_now (by decide +kernel), by decide +kernel, by decide +kernel,
    by decide +kernel, by decide +kernel⟩

theorem witness_Shadow :
    (let w : IWord := { opc := 0x50, aux := 0x1FF }; Issues spShadow 0 .f w (onState w)) ∧
    (let w : IWord := { opc := 0x30 }
     let s (c : Bool) : State := onState w { tray := tray4, f := { mark := some { copy := c, tag := 255, partner := 1 } } }
     ∀ c, Judged spVop 0 .f w (s c) ∧ lowest (spVop.rules 0 .f w (s c)) = none ∧ spVop.shad w = true ∧
       (str (s c) 0 .f).mark = some { copy := c, tag := 255, partner := 1 } ∧ plNext w = false ∧ physOf (s c) 1 = some 1) := by
  refine ⟨issues_of_now (by decide), fun c => ?_⟩
  cases c <;> exact ⟨⟨by decide +kernel, by decide, by decide +kernel, fun f h => by cases h; decide, by decide +kernel⟩,
    by decide +kernel, by decide, by decide +kernel, by decide, by decide⟩

theorem witness_TransfersTakeATicket :
    (let w : IWord := { opc := 0x40 }; Issues spDmal 0 .f w (onState w { tray := td 0 (2 ^ 33) 4096 64 })) ∧
    (let w : IWord := { opc := 0x41 }; Issues spDmas 0 .f w (onState w { tray := td 0 (2 ^ 33) 4096 64 })) ∧
    (let w : IWord := { opc := 0x42 }; Issues spDmax 0 .f w (onState w { tray := td 0 4096 4096 64 1 })) ∧
    (let w : IWord := { opc := 0x51, aux := 255 }
     Issues spChkcmp 0 .f w (onState w { own := [(255, { partner := 1, opid := 0, wit := none })] })) :=
  ⟨issues_of_now (by decide +kernel), issues_of_now (by decide +kernel), issues_of_now (by decide +kernel),
   issues_of_now (by decide +kernel)⟩

/-! ### Witnesses: transfers, sequencers and steps -/

theorem witness_RemoteOperations :
    (let w : IWord := { opc := 0x43, aux := 1 }; let s := onState w { tray := td 0 (2 ^ 33) 4096 64 } (ctx1 0)
     Issues spRsend 0 .f w s ∧ ctxDead s (flowOf w) = none) ∧
    (let w : IWord := { opc := 0x44, aux := 1 }; Issues spRread 0 .f w (onState w { tray := td 0 (2 ^ 33) 4096 64 } (ctx1 0))) ∧
    (let w : IWord := { opc := 0x45, aux := 1 }
     Issues spGlue 0 .f w (onState w { tray := cells 0 (words4 [0, 2, 0x10001000, 64, 1, 0, 0, 0, 0, 0, 8192, 0, 0, 3]) } (ctx1 0))) ∧
    (let w : IWord := { opc := 0x46, aux := 1 }; Issues spRclamp 0 .f w (onState w {} (ctx1 0))) ∧
    (let w : IWord := { opc := 0x46, aux := 3071 }; let s := onState w
     Issues spRclamp 0 .f w s ∧ ctxDead s (flowOf w) = some .remote) ∧
    (let w : IWord := { opc := 0x46, aux := 1 }; let s := onState w {} (setRegs [(ctxReg 1 6, 0x80000000)])
     Issues spRclamp 0 .f w s ∧ ctxDead s (flowOf w) = some .timeout) :=
  ⟨⟨issues_of_now (by decide +kernel), by decide +kernel⟩, issues_of_now (by decide +kernel), issues_of_now (by decide +kernel),
   issues_of_now (by decide +kernel), ⟨issues_of_now (by decide +kernel), by decide +kernel⟩,
   issues_of_now (by decide +kernel), by decide +kernel⟩

theorem witness_LastByte :
    (let k := ticketAs .dmal (some (xfer32 (2 ^ 33) 0)) (some (4096, 4127))
     ticketOf (bench (holding k) 0) 63 = some k ∧ k.sb.isSome = true ∧ k.op = .dmal) ∧
    (let k := ticketAs .dmax (some (xfer32 4096 1)) (some (4096, 4127))
     ticketOf (bench (holding k) 0) 63 = some k ∧ k.sb.isSome = true ∧ physOf (holding k) 1 = some 1) := by decide +kernel

theorem witness_Stores : let k := ticketAs .dmas (some (xfer32 (2 ^ 33) 0)) none
    let d := xfer32 (2 ^ 33) 0
    (let s := holding k
     ticketOf (bench s 0) 63 = some k ∧ s.chip ≠ .rest ∧ bit (rg s Rg.SEAL_WIT_CTRL) 8 = false ∧
       (∀ p, p ∈ xferPieces d → offline s p.1 = false ∧ ∀ i, i < p.2.2 → regionOf s (p.1 + i) = none) ∧ xferScale d = 0 ∧
       (d.rows = 1 ∨ d.rowLen ≤ d.mstride)) ∧
    (let s := setRegs [(Rg.JST_STAT 0, 0x80000000)] (holding k)
     ticketOf (bench s 0) 63 = some k ∧ ∀ p, p ∈ xferPieces d → storeOk s k.stream p.1 = false ∨ offline s p.1 = true) := by
  decide +kernel

theorem witness_LoadTicketsAndTimeouts :
    (let k := ticketAs .dmal none none; ticketOf (bench (holding k) 0) 63 = some k ∧ k.left = 0 ∧ k.flow = none ∧ k.status = .ok) ∧
    (let k := ticketAs .chkcmp none none 1; ticketOf (bench (holding k) 0) 63 = some k ∧ k.flow = none) ∧
    inTest (holding (ticketAs .dmas none none)) 0 = false := by decide +kernel

/-- Equal witnesses, and unequal ones. -/
theorem witness_ShadowCompare : ∀ q : Bool, let k := ticketAs .chkcmp none none
    let o : ShSlot := { partner := 1, opid := 7, wit := some 5 }
    let p : DWord := if q then 5 else 6
    let s := holding k { own := [(5, o)], theirs := [(5, p)] }
    (bench s 0).tickets.find? (fun y => y.op = .chkcmp ∧ y.tag = 5) = some k ∧ spFind 5 (bench s 0).own = some o ∧
      spFind 5 (bench s 0).theirs = some p ∧ (decide ((5 : DWord) = p) = q) ∧ bit (rg s (Rg.PLANE_SHD_STAT 0)) 31 = false := by
  decide +kernel

/-- A block requested, open and closed, and one that is not; an ARMED stream with its first block, and one whose setup failed. -/
theorem witness_Windows :
    (let s : State := { setRegs [(Rg.SEQ_WIN 0, 0x010101), (Rg.SEQ_PROGn_HI 0 0, 2)] with benches := [(0, { f := { reqs := [3] } })] }
     3 ∈ (str s 0 .f).reqs ∧ 4 ∉ (str s 0 .f).reqs ∧ setupClosed s (base48 s (Rg.SEQ_PROGn_LO 0 0) + 1024 * 3) 1024 = false) ∧
    (let s : State := { setRegs [(Rg.SEQ_WIN 0, 0x010101)] with benches := [(0, { f := { reqs := [0] } })] }
     0 ∈ (str s 0 .f).reqs ∧ setupClosed s (base48 s (Rg.SEQ_PROGn_LO 0 0)) 1024 = true) ∧
    (let x : StreamSt := { state := .armed, blocks := [{ num := 0, closed := false, bad := [], words := [] }] }
     x.state = .armed ∧ x.setup = none ∧ ∃ k, k ∈ x.blocks ∧ k.num = 0) ∧
    (let x : StreamSt := { state := .armed, setup := some xDmaErr }; x.state = .armed ∧ x.setup = some xDmaErr) := by
  refine ⟨by decide +kernel, by decide +kernel, ⟨rfl, rfl, _, List.mem_singleton.mpr rfl, rfl⟩, rfl, rfl⟩

/-- The registers of an OPEN step with its start mark ahead; and a START while a step runs. -/
theorem witness_Streams :
    (let s : State := { setRegs [(Rg.HOLD_START_MARK_LO, 9)] with chip := .run, stepSt := .opened }
     PageOpen (Pg.SEQ 0) s ∧ lowest (streamCtlBad 0 7 0 s) = none) ∧
    (let s : State := { chip := .ready }; PageOpen (Pg.SEQ 131) s ∧ lowest (streamCtlBad 131 0 7 s) = none) ∧
    (let s : State := { chip := .run, stepSt := .run }
     PageOpen (Pg.SEQ 0) s ∧ lowest (streamCtlBad 0 1 0 s) = some rsState ∧ bit (rg s (Rg.REFUSED (Pg.SEQ 0))) 31 = false) := by
  refine ⟨⟨⟨by decide, by decide +kernel, by decide +kernel⟩, by decide +kernel⟩, ⟨⟨by decide, by decide +kernel, by decide +kernel⟩, by decide +kernel⟩,
    ⟨by decide, by decide +kernel, by decide +kernel⟩, by decide +kernel, by decide +kernel⟩

theorem witness_Holds : let k := { ticketAs .dmal none (some (0, 31)) with bc := 3 }
    (let s := holding k
     logOf s (lateBench (.ticket 0 63)) = some 0 ∧ s.chip ≠ .rest ∧ s.hold = .none ∧ s.frozen = false ∧ lateBudgeted s 3 (.ticket 0 63) = true ∧
       lateArrived s (.ticket 0 63) = false ∧ LateItem.ticket 0 63 ∉ s.late) ∧
    (let s := { holding k with hold := .frozen, late := [.block 1 .u 0] }
     lateBudgeted s 3 (.ticket 0 63) = true ∧ LateItem.ticket 0 63 ∉ s.late ∧ lateArrived s (.block 1 .u 0) = false) ∧
    (let s : State := { hold := .frozen, late := [.ticket 0 63] }
     (∀ i, i ∈ s.late → lateArrived s i = true) ∧ ∀ w, s.swap = some w → w.held = false) ∧
    (let s := { holding k with hold := .frozen, late := [.ticket 0 63] }
     ticketOf (bench s 0) 63 = some k ∧ lateArrived s (.ticket 0 63) = false) ∧
    (({ hold := .releasing } : State).hold = .releasing) := by
  refine ⟨by decide +kernel, by decide +kernel, ⟨by decide +kernel, fun w h => (nomatch h)⟩, by decide +kernel, rfl⟩

theorem witness_BoundedWaits :
    (let s : State := { benches := [(0, { f := { state := .wait, wait := some (.queue 31), pc := 7 } })] }
     unitWait s 0 .f = some (31, 7) ∧ isFrozen s = false) ∧
    (let s : State := { frozen := true, benches := [(0, { f := { state := .run, stall := some .grant } })] }
     unitWait s 0 .f = some (0, 0) ∧ isFrozen s = true ∧ inTest s 0 = false) ∧
    (let s : State := { benches := [(0, { f := { state := .wait, wait := some (.clamp true 63 1 false 0) } })] }
     (str s 0 .f).state = .wait ∧ (str s 0 .f).wait = some (.clamp true 63 1 false 0)) := by decide +kernel

theorem witness_Freezes :
    (let s : State := { chip := .run, stepSt := .run }
     PageOpen Pg.HOLD s ∧ bit (rg s Rg.HOLD_FREEZE_STAT) 29 = false) ∧
    (let s : State := setRegs [(Rg.HOLD_FREEZE_CTL, 0x8000FFFF), (Rg.HOLD_FREEZE_STAT, 0x20000000)]
       { benchMap := [0], benches := [(0, { f := { state := .held }, b := { state := .done }, u := { state := .done } })] }
     bit (rg s Rg.HOLD_FREEZE_STAT) 29 = true ∧ bit (rg s Rg.HOLD_FREEZE_CTL) 31 = true ∧ quiescent s = true ∧
       (str s 0 .f).state = .held) ∧
    (let s : State := { setRegs [(Rg.HOLD_FREEZE_STAT, 0x80000000)] with chip := .run, stepSt := .run }
     PageOpen Pg.HOLD s ∧ bit (rg s Rg.HOLD_FREEZE_STAT) 31 = true ∧ bit (rg s Rg.HOLD_FREEZE_STAT) 29 = false) := by
  refine ⟨⟨⟨by decide, by decide +kernel, by decide +kernel⟩, by decide +kernel⟩, by decide +kernel,
    ⟨by decide, by decide +kernel, by decide +kernel⟩, by decide +kernel, by decide +kernel⟩

/-- An OPEN step over one bench with its image in memory at 0: a chip section of zeros under its CRC, and the bench's record of zeros under
its own. -/
def bare : State := { chip := .run, stepSt := .opened, benchMap := [0] }
def section0 : List Byte := List.replicate 0xFFFC 0
def head0 : List Byte := List.replicate 0xFFFFC 0
def tray0 : List Byte := List.replicate 0x180000 0
def chip0 : List Byte := section0 ++ leBytes 4 (crc32 section0).toNat
def record0 : List Byte := head0 ++ (leBytes 4 (crc32 (head0 ++ tray0)).toNat ++ tray0)
def imaged : State := memPutAll 0 (chip0 ++ record0) bare

/-! A state whose registers are those of reset, with bytes placed in its memory from address 0 on. -/

theorem flat_memLoc {s : State} (h : s.regs = []) (x : Nat) : memLoc s x = x := by
  unfold memLoc regionOf regionsOf; rw [h]; rfl
theorem placed_rg (l : List Byte) (s : State) (a : Nat) : rg (memPutAll 0 l s) a = rg s a := rg_congr (by rw [memPutAll_shape]) a
theorem placed_memUe {s : State} (h : s.regs = []) (h' : s.memBad = []) (l : List Byte) (x : Nat) : memUe (memPutAll 0 l s) x = false := by
  have hm : ∀ k, k ∉ (memPutAll 0 l s).memBad := fun k i => by simpa [h'] using memBad_memPutAll _ _ _ k i
  have hg : ∀ j, rg (memPutAll 0 l s) j = rg {} j := fun j => (placed_rg l s j).trans (rg_congr (by rw [h]) j)
  have h8 : jmcAt (memPutAll 0 l s) x < 8 := by
    have := jmcOf_lt (memLoc (memPutAll 0 l s) x)
    unfold jmcAt locate; dsimp only; split <;> [(dsimp only; split <;> omega); exact this]
  have ht : ∀ j, j < 8 → bits (rg {} (Rg.JST_STAT j)) 31 29 ≠ 4 ∧ bits (rg {} (Rg.JST_STAT j)) 31 29 ≠ 2 := by decide +kernel
  unfold memUe offline
  rw [hg, Bool.or_eq_false_iff]
  obtain ⟨h1, h2⟩ := ht _ h8
  exact ⟨by simpa using hm _, by simp only [beq_eq_false_iff_ne.mpr h1, beq_eq_false_iff_ne.mpr h2, Bool.and_false, Bool.or_false]⟩
theorem placed_bytes {s : State} (h : s.regs = []) (l : List Byte) : memBytes (memPutAll 0 l s) 0 l.length = l :=
  memBytes_memPutAll _ _ _ fun _ _ => flat_memLoc h _
theorem placed_at {s : State} (h : s.regs = []) {l : List Byte} {k n : Nat} (hk : k + n ≤ l.length) :
    memBytes (memPutAll 0 l s) k n = (l.drop k).take n := by
  have e : ((memBytes (memPutAll 0 l s) 0 l.length).drop k).take n = memBytes (memPutAll 0 l s) k n := by
    apply List.ext_getElem
    · simp [memBytes]; omega
    · intro i h1 h2; simp [memBytes]
  rw [← e, placed_bytes h]

theorem chip0_length : chip0.length = 0x10000 := by rw [chip0, List.length_append, length_leBytes, section0, List.length_replicate]
theorem record0_length : record0.length = 0x280000 := by
  rw [record0, List.length_append, List.length_append, length_leBytes, head0, tray0, List.length_replicate, List.length_replicate]
theorem chip0_crc : fieldAt chip0 0xFFFC 4 = (crc32 (chip0.take 0xFFFC)).toNat ∧ fieldAt chip0 0x18 8 = 0 := by
  have h : section0.length = 0xFFFC := by rw [section0, List.length_replicate]
  refine ⟨?_, ?_⟩
  · rw [fieldAt, chip0, List.drop_left' h, List.take_left' h, List.take_of_length_le (by rw [length_leBytes])]
    exact leNat_leBytes 4 _ (crc32 section0).isLt
  · rw [fieldAt, chip0, List.drop_append_of_le_length (by rw [h]; decide), section0, List.drop_replicate,
      List.take_append_of_le_length (by rw [List.length_replicate]; decide), List.take_replicate]; rfl
theorem record0_ok : recordOk record0 = true := by
  have h : head0.length = 0xFFFFC := by rw [head0, List.length_replicate]
  have h1 : record0.drop 0x100000 = tray0 := by
    rw [record0, ← List.append_assoc]
    exact List.drop_left' (by rw [List.length_append, length_leBytes, h])
  rw [recordOk, fieldAt, h1, record0, List.drop_left' h, List.take_left' h, List.take_left' (length_leBytes _ _), beq_iff_eq]
  exact leNat_leBytes 4 _ (crc32 _).isLt

/-- The conditions of `FreezeLoads` on a state that holds a good chip section `c` and a good record `r`. -/
theorem image_loads {c r : List Byte} (hcl : c.length = 0x10000) (hrl : r.length = 0x280000)
    (hcc : fieldAt c 0xFFFC 4 = (crc32 (c.take 0xFFFC)).toNat ∧ fieldAt c 0x18 8 = 0) (hrr : recordOk r = true) :
    let s := memPutAll 0 (c ++ r) bare
    PageOpen Pg.HOLD s ∧ s.stepSt = .opened ∧ bit (rg s Rg.HOLD_FREEZE_STAT) 29 = false ∧
      (∀ b t, b < 132 → (str s b t).state = .stopped ∨ inTest s b = true) ∧ imageOk s = true ∧
      s.benchMap.Nodup ∧ ∀ b, b ∈ s.benchMap → b < 132 := by
  intro s
  obtain ⟨m, mb, hs⟩ : ∃ m mb, s = { bare with mem := m, memBad := mb } := ⟨_, _, memPutAll_shape (c ++ r) 0 bare⟩
  have hr : ∀ a, rg s a = rg bare a := fun a => rg_congr (by rw [hs]) a
  have hl : (c ++ r).length = 0x290000 := by rw [List.length_append, hcl, hrl]
  have hm : s.benchMap = [0] := by rw [hs]; rfl
  have hc : memBytes s 0 0x10000 = c := by
    rw [placed_at rfl (by rw [hl]; decide), List.drop_zero, List.take_left' hcl]
  have hk : memBytes s 0x10000 recordSize = r := by
    rw [placed_at rfl (by rw [hl]; decide), List.drop_left' hcl, List.take_of_length_le (by rw [hrl]; decide)]
  have ho : ∀ n, rangeAny 0 n (memUe s) = false := fun n => by
    unfold rangeAny; rw [List.any_eq_false]; intro i _; rw [placed_memUe rfl rfl]; decide
  have hb : base48 s Rg.HOLD_FREEZE_BASE_LO = 0 := by
    rw [show base48 s Rg.HOLD_FREEZE_BASE_LO = base48 bare Rg.HOLD_FREEZE_BASE_LO by simp only [base48, rg64, hr]]; decide +kernel
  have hj : (rg64 s Rg.HOLD_JIG_ID_LO).toNat = 0 := by
    rw [show rg64 s Rg.HOLD_JIG_ID_LO = rg64 bare Rg.HOLD_JIG_ID_LO by simp only [rg64, hr]]; decide +kernel
  have he : memEnd s = memEnd bare := by simp only [memEnd, hr]
  refine ⟨⟨by rw [hs]; rfl, ?_, by rw [hr]; decide +kernel⟩, by rw [hs]; rfl, by rw [hr]; decide +kernel, ?_, ?_,
    by rw [hm]; decide, by rw [hm]; decide⟩
  · unfold fencedDom; rw [hs]; rfl
  · intro b t _; left; unfold str bench; rw [hs]; cases t <;> rfl
  · unfold imageOk
    simp only [hb, hc, hj, hm, he, ho, hcc.1, hcc.2, Bool.and_eq_true, List.all_eq_true]
    refine ⟨⟨⟨⟨by decide +kernel, rfl⟩, by simp⟩, rfl⟩, fun k hk' => ?_⟩
    obtain rfl : k = 0 := by simpa using hk'
    rw [show recordBase 0 0 = 0x10000 from rfl, hk]; exact hrr
theorem witness_FreezeLoads : PageOpen Pg.HOLD imaged ∧ imaged.stepSt = .opened ∧ bit (rg imaged Rg.HOLD_FREEZE_STAT) 29 = false ∧
    (∀ b t, b < 132 → (str imaged b t).state = .stopped ∨ inTest imaged b = true) ∧ imageOk imaged = true ∧
    imaged.benchMap.Nodup ∧ ∀ b, b ∈ imaged.benchMap → b < 132 :=
  image_loads chip0_length record0_length chip0_crc record0_ok

theorem witness_BenchesCheckThemselves :
    (let s := setRegs [(Rg.STATE (Pg.BENCH 0), 5)] { chip := .run }
     let v : Word := word (2 ^ 31 + 128 * 2 ^ 23 + 96 * 2 ^ 16 + 95 * 2 ^ 8 + 1)
     PageOpen (Pg.BENCH 0) s ∧ inTest s 0 = true ∧ bits v 30 23 = 128 ∧ bits v 22 16 = 96 ∧ bits v 14 8 = 95) ∧
    (let s : State := { chip := .run }; PageOpen (Pg.BENCH 0) s ∧ bit (0x80000000 : Word) 31 = true ∧ inTest s 0 = false) ∧
    (let s := setRegs [(Rg.STATE (Pg.BENCH 0), 2)] { chip := .run }; PageOpen (Pg.PLANE 0) s ∧ blkState s (Pg.BENCH 0) = 2) ∧
    (let s := setRegs [(Rg.STATE (Pg.BENCH 0), 3)] { chip := .run }
     PageOpen (Pg.PLANE 0) s ∧ blkState s (Pg.BENCH 0) = 3 ∧ inTest s 0 = false) ∧
    131 ∈ ({ ttabBusy := [131] } : State).ttabBusy ∧
    (let s : State := { chip := .run, benchMap := [0], benches := [(0, { f := { state := .run } })] }
     (bench s 0).locked = false ∧ (logOf s 0).isSome = true ∧ inTest s 0 = false ∧ (∀ p, p < 132 → blkState s (Pg.BENCH p) ≠ 6)) ∧
    (let s := setRegs [(Rg.STATE (Pg.BENCH 131), 6)]; blkState s (Pg.BENCH 131) = 6) := by
  refine ⟨⟨⟨by decide, by decide +kernel, by decide +kernel⟩, by decide +kernel, by decide, by decide, by decide⟩,
    ⟨⟨by decide, by decide +kernel, by decide +kernel⟩, by decide, by decide +kernel⟩,
    ⟨⟨by decide, by decide +kernel, by decide +kernel⟩, by decide +kernel⟩,
    ⟨⟨by decide, by decide +kernel, by decide +kernel⟩, by decide +kernel, by decide +kernel⟩, by decide,
    ⟨by decide, by decide +kernel, by decide +kernel⟩, by decide +kernel⟩

/-- `s` with benches 0 to 127 mapped and in service. -/
def inService (s : State) : State :=
  setRegs ((List.range 128).map fun b => (Rg.STATE (Pg.BENCH b), 2)) { s with benchMap := List.range 128 }
/-- No deadline, one that is due, and contexts of every kind; a second step after a first under the same epoch. -/
theorem witness_Open :
    (let s := inService { ctx1 0 with chip := .ready }; PageOpen Pg.SEALU s ∧ lowest (openBad s) = none ∧ validCtxs s = [1] ∧ ctxNoStep s 1 = true) ∧
    (let s := setRegs [(ctxReg 1 0, 0x80000000), (Rg.GAU_DL_LO, 5), (Rg.SEAL_STEP_NEXT_LO, 8)]
       (inService { chip := .run, stepSt := .committed, stepNo := 7, gauge := 5 })
     lowest (openBad s) = none ∧ rg64 s Rg.GAU_DL_LO ≠ 0 ∧ rg64 s Rg.GAU_DL_LO ≤ s.gauge ∧ ctxNoStep s 1 = false) := by
  refine ⟨⟨⟨by decide +kernel, by decide +kernel, by decide +kernel⟩, by decide +kernel, by decide +kernel, by decide +kernel⟩,
    by decide +kernel⟩

theorem witness_StepRunAndDeadline :
    (let s : State := { stepSt := .opened, benchMap := [131], benches := [(131, { f := { state := .stopped }, b := { state := .held } })] }
     (∀ b, b ∈ s.benchMap → b < 132) ∧ bit (rg s Rg.SEAL_STEP_STAT) 27 = false ∧ (str s 131 .f).state = .stopped) ∧
    (let s := setRegs [(Rg.SEAL_STEP_STAT, 0x08000000)] { stepSt := .opened, benchMap := [131], benches := [(131, { b := { state := .held } })] }
     bit (rg s Rg.SEAL_STEP_STAT) 27 = true ∧ (str s 131 .b).state = .held) ∧
    (let s := setRegs [(Rg.GAU_DL_LO, 5)] { stepSt := .run }
     rg64 s Rg.GAU_DL_LO ≠ 0 ∧ bit (rg s Rg.GAU_DL_STAT) 31 = false) := by decide +kernel

/-- A token of the one child, in RUN and in CLOSE; and of one of two children. -/
theorem witness_TokenArrives : let f := flitOf .seal (tokenBytes 1 (token true))
    f.typ = .seal ∧ tokenKind (payload f) = 1 ∧
    (∃ u, Passes 0 4096 f (arrived f { ctx1 0x04000000 with stepSt := .run }) u ∧
      ctxSealC (arrived f { ctx1 0x04000000 with stepSt := .run }) 1 = true) ∧
    (let s := arrived f { setRegs [(Rg.SEAL_CFG, 0x80000000)] (ctx1 0x04000000) with stepSt := .close }
     ∃ u, Passes 0 4096 f s u ∧ ¬ childMissing { u with childToks := s.childToks ++ [(f.flow, tokenOf (payload f))] } ∧
      State.wf { u with childToks := s.childToks ++ [(f.flow, tokenOf (payload f))] } = true) := by
  refine ⟨rfl, by decide +kernel, ⟨_, passes_of rfl (by decide +kernel) (by decide +kernel) (by decide +kernel), by decide +kernel⟩,
    _, passes_of rfl (by decide +kernel) (by decide +kernel) (by decide +kernel),
    by unfold childMissing; decide +kernel, by decide +kernel⟩

/-- The eight tables of a state that has written no register of a JMC's page agree. -/
theorem tables_reset : tablesAgree {} = true := by decide +kernel
theorem rg_unlisted {s : State} {a : Nat} (h : ∀ e, e ∈ s.regs → e.1 ≠ a) : rg s a = rg {} a := by
  have : spFind a s.regs = none := by
    generalize s.regs = l at h
    induction l with
    | nil => rfl
    | cons e t ih =>
      unfold spFind
      rw [if_neg (fun k => h e (by simp) k.symm)]
      exact ih fun e he => h e (by simp [he])
  unfold rg; rw [this]; rfl
theorem tablesAgree_of {s : State} (h : s.regs.all (fun e => decide (e.1 < Pg.JMC 0 ∨ Pg.JMC 8 ≤ e.1)) = true) : tablesAgree s = true := by
  rw [← tables_reset]
  have hj : ∀ a, Pg.JMC 0 ≤ a → a < Pg.JMC 8 → rg s a = rg {} a := by
    intro a h1 h2
    exact rg_unlisted fun e he hk => by
      have := List.all_eq_true.1 h e he
      simp at this; omega
  have hc : ∀ j, j < 8 → ∀ n, n < 64 → ∀ k, k < 0xC → rg s (Pg.JMC j + 0x400 + k + n * 0x10) = rg {} (Pg.JMC j + 0x400 + k + n * 0x10) := by
    intro j hj' n hn k hk
    apply hj <;> unfold Pg.JMC pageOf <;> omega
  have e (j n : Nat) (hj : j < 8) (hn : n < 64) : rg s (Rg.JMC_GRn_CTL j n) = rg {} (Rg.JMC_GRn_CTL j n) ∧
      rg s (Rg.JMC_GRn_BASE_LO j n) = rg {} (Rg.JMC_GRn_BASE_LO j n) ∧ rg s (Rg.JMC_GRn_BASE_HI j n) = rg {} (Rg.JMC_GRn_BASE_HI j n) :=
    ⟨hc j hj n hn 8 (by omega), hc j hj n hn 0 (by omega), hc j hj n hn 4 (by omega)⟩
  unfold tablesAgree
  rw [Bool.eq_iff_iff]
  simp only [List.all_eq_true, List.mem_range, Bool.and_eq_true, beq_iff_eq]
  refine forall_congr' fun j => forall_congr' fun hj => forall_congr' fun n => forall_congr' fun hn => ?_
  obtain ⟨a, b, c⟩ := e j n hj hn
  obtain ⟨a', b', c'⟩ := e 0 n (by omega) hn
  rw [a, b, c, a', b', c']

/-- A step ready to close with a child whose token is missing, and the root's with none; the child's bound; the sealed wait. -/
theorem witness_Closing :
    (let s : State := { ctx1 0x04000000 with stepSt := .run }; closeReady s = true ∧ childMissing s) ∧
    (let s := setRegs [(Rg.SEAL_CFG, 0x80000000)] { stepSt := .run }
     closeReady s = true ∧ ¬ childMissing s ∧ State.wf s = true ∧ parentCtx s = none ∧
       ((rootToken (combined s) s).clean = true → tablesAgree s = true)) ∧
    (let s : State := { ctx1 0 with stepSt := .run }
     closeReady s = true ∧ ¬ childMissing s ∧ parentCtx s = some 0 ∧ ¬ (ctxValid s 0 = true ∧ ctxState s 0 = 1)) ∧
    (let s := setRegs [(Rg.SEAL_CFG, 1)] { ctx1 0 with stepSt := .run }
     parentCtx s = some 1 ∧ ctxValid s 1 = true ∧ ctxState s 1 = 1) ∧
    (let s : State := { ctx1 0x04000000 with stepSt := .close }; childMissing s ∧ State.wf s = true) ∧
    (let s : State := { stepSt := .sealed }; bit (rg s Rg.SEAL_STAT) 30 = false ∧ 0x323 ∉ s.marks) := by
  unfold childMissing
  exact ⟨by decide +kernel, ⟨by decide +kernel, by decide +kernel, by decide +kernel, by decide +kernel,
    fun _ => tablesAgree_of (by decide +kernel)⟩, by decide +kernel⟩

/-- A clean decision of the parent, in READY and in REST; and a step SEALED for the cabinet to resolve. -/
theorem witness_Decisions : let f := flitOf .seal (tokenBytes 2 (token true))
    let s (c : ChipState) : State := arrived f { setRegs [(Rg.SEAL_CFG, 1)] (ctx1 0) with stepSt := .sealed, chip := c }
    tokenKind (payload f) = 2 ∧ (∀ c, c ∈ [ChipState.ready, .rest] → parentCtx (s c) = some f.flow ∧ stepHeld (s c) = true ∧
      (tokenOf (payload f)).epoch = (rg (s c) (Rg.LKD_EPOCH 0)).toNat ∧ (tokenOf (payload f)).step = (s c).stepNo ∧
      tablesAgree (s c) = true ∧ ∃ u, Passes 0 4096 f (s c) u ∧ State.wf u = true) ∧
    (let s : State := { chip := .ready, stepSt := .sealed }
     PageOpen Pg.SEALU s ∧ lowest (resolveBad s) = none ∧ State.wf s = true ∧ tablesAgree s = true) := by
  refine ⟨by decide +kernel, fun c hc => ?_, ⟨by decide +kernel, by decide +kernel, by decide +kernel⟩,
    by decide +kernel, by decide +kernel, tablesAgree_of (by decide +kernel)⟩
  fin_cases hc <;> exact ⟨by decide +kernel, by decide +kernel, by decide +kernel, by decide +kernel,
    tablesAgree_of (by decide +kernel), _,
    passes_of rfl (by decide +kernel) (by decide +kernel) (by decide +kernel), by decide +kernel⟩

/-! ### Witnesses: links and flows -/

/-- Spline `x` UP with its advance measured, under a locked gauge. -/
def upState (x : Nat) (l : List (Nat × Word) := []) (p : SplineSt := {}) : State :=
  { setRegs ([(Rg.GAU_STAT, 2), (Rg.SPL_STAT x, 0x60010000), (Rg.SPL_ECHO_ADV x, 0x80000000)] ++ l) with
    chip := .run, splines := [(x, p)] }
def listOf (e : Word) : CutList := { id := 7, ents := List.replicate 512 e }
/-- The bytes of a slot of kind DATA of boundary 16 with no flit but zeros as its ciphertext, and a report `ack` of Table 11-4. -/
def slotAt16 (ack tag : Nat) : List Byte :=
  List.replicate 160 0 ++ preamble (leBytes 4 0x1100000 ++ leBytes 4 ack ++ leBytes 4 0) (beBytes 16 tag)
    ++ (List.range 5).flatMap fun _ => List.replicate 272 0 ++ leBytes 4 1893640712

/-- Slots of an IDLE, a RESERVED and a FENCE entry through an open gate; a gate closed by the gauge; and a slot in training. -/
theorem witness_SlotsLeave :
    (∀ k, k < 3 → let s := upState 0 [] { active := some (listOf ([0, 0x40010000, 0xC0000000].getD k 0)) }
     let s1 := gaugeTo (leaves s 0 8) s
     isUp s 0 = true ∧ s.replay = false ∧ slotNew s 0 8 = true ∧ gateOpen s 0 = true ∧
       contentOk 0 (entryAt s 0 8) (slotContent 0 8 (lead s 0 8) (entryAt s 0 8) s1).2.1 = true) ∧
    (let s := upState 15 [(Rg.GAU_STAT, 0)]
     isUp s 15 = true ∧ s.replay = false ∧ slotNew s 15 0 = true ∧ gateOpen s 15 = false) ∧
    (let s := setRegs [(Rg.SPL_STAT 0, 0x20000000)]
     isTraining s 0 = true ∧ s.replay = false ∧ slotNew s 0 8 = true ∧ (spline s 0).knockEnd ≤ 8) := by decide +kernel

/-- The CRC of the 272 zeros of a flit position, in steps. -/
theorem crc_zeros : crc32 (List.replicate 272 (0 : Byte)) = BitVec.ofNat 32 1893640712 := by
  have st (c d : Word) (h : (List.replicate 34 (0 : Byte)).foldl (fun c b => crcBits 8 (c ^^^ b.setWidth 32)) c = d) (n : Nat) :
      (List.replicate (34 + n) (0 : Byte)).foldl (fun c b => crcBits 8 (c ^^^ b.setWidth 32)) c =
        (List.replicate n (0 : Byte)).foldl (fun c b => crcBits 8 (c ^^^ b.setWidth 32)) d := by
    rw [List.replicate_add, List.foldl_append, h]
  rw [crc32, st 0xFFFFFFFF 0xbe8e93d5 (by decide +kernel) 238, st _ 0xef289152 (by decide +kernel) 204, st _ 0xfd342cc9 (by decide +kernel) 170, st _ 0x88cccc19 (by decide +kernel) 136, st _ 0x8464d070 (by decide +kernel) 102, st _ 0x9318e1d8 (by decide +kernel) 68, st _ 0x50d13594 (by decide +kernel) 34,
    st _ 0x8f2155f7 (by decide +kernel) 0]
  decide +kernel

/-- Spline 0 UP with lanes mapped straight. -/
def straight (p : SplineSt := {}) : State := upState 0 [(Rg.SPL_LANE_MAP 0, 0x76543210)] p
theorem rxSlot_of {bs : List Byte} (h : bs.length = 1600) (p : SplineSt) (hp : p.swap = none) :
    rxSlot (straight p) 0 16 0 (physLanes (List.range 8) bs) = readSlot (slotKey (straight p) 0 16 true) 16 160 bs := by
  have hm : laneMapAt (straight p) 0 16 = List.range 8 := by
    have h1 : (spline (straight p) 0).swap = none := hp
    have h2 : rg (straight p) (Rg.SPL_LANE_MAP 0) = rg straight (Rg.SPL_LANE_MAP 0) := rg_congr rfl _
    unfold laneMapAt; rw [h1, h2]; dsimp only; decide +kernel
  rw [rxSlot, hm, lanesBytes_physLanes h]; rfl

/-- Received slots without a report and with an ACK, accepted, and one that does not check; and slots that await a report. -/
theorem witness_SlotsAreReceived :
    (∀ e : Bool, let s := straight
     let r := rxSlot s 0 16 0 (physLanes (List.range 8) (slotAt16 (if e then 0x5000 else 0) (if e then 193515749026363757830906324837548116984 else 196157904946198841427736975619275440260)))
     isUp s 0 = true ∧ s.replay = false ∧ r.preOk = true ∧ r.flitsOk = true ∧ r.tagOk = true ∧ s.chip = .run ∧
       r.rep = if e then some (1, true) else none) ∧
    (let s := straight; isUp s 0 = true ∧ s.replay = false ∧ (rxSlot s 0 16 0 []).preOk = false) ∧
    (let q : RetryFlit := { flit := flitOf .op, ctx := 1, tkt := none, slot := 8, sends := 7, again := false, acked := false }
     let s := upState 0 [] { rbuf := [q], unrep := [8] }
     8 ∈ (spline s 0).unrep ∧ (∀ r, r ∈ (spline s 0).rbuf → r.ctx = 1 ∧ r.sends < 8) ∧ 16 ∉ (spline s 0).unrep) := by
  refine ⟨fun e => ⟨by decide +kernel, rfl, ?_, ?_, ?_, rfl, ?_⟩, by decide +kernel, by decide +kernel⟩
  · cases e <;> rw [rxSlot_of (by decide +kernel) _ rfl] <;> decide +kernel
  · have pos : ∀ k, k < 5 → (((slotAt16 (if e then 0x5000 else 0) (if e then 193515749026363757830906324837548116984 else 196157904946198841427736975619275440260)).drop (220 + 276 * k)).take 276).take 272
          = List.replicate 272 0 ∧
        leNat ((((slotAt16 (if e then 0x5000 else 0) (if e then 193515749026363757830906324837548116984 else 196157904946198841427736975619275440260)).drop (220 + 276 * k)).take 276).drop 272) = 1893640712 := by
      cases e <;> decide +kernel
    rw [rxSlot_of (by cases e <;> decide +kernel) _ rfl]
    unfold readSlot
    rw [List.all_eq_true]
    intro k hk
    obtain ⟨h1, h2⟩ := pos k (List.mem_range.1 hk)
    dsimp only
    rw [h1, h2, crc_zeros]; rfl
  · cases e <;> rw [rxSlot_of (by decide +kernel) _ rfl] <;> decide +kernel
  · cases e <;> rw [rxSlot_of (by decide +kernel) _ rfl] <;> decide +kernel

/-- The payload of an operation (Table 12-3) on one row of `n` bytes at `a`. -/
def opPay (k a n : Nat) (clamp : Nat := 0) : List Byte :=
  leBytes 8 (k * 2 ^ 28 + 63) ++ leBytes 8 a ++ leBytes 4 n ++ leBytes 4 1 ++ leBytes 16 0 ++ leBytes 4 clamp
def opState (k a n : Nat) (s : State := ctx1 0) : State := arrived (flitOf .op (opPay k a n)) { s with chip := .run }

theorem opState_passes {k a n : Nat} (s : State) (h1 : (flowCheck (flitOf .op (opPay k a n))
      (modSpline 0 (fun x => { x with rxq := [] }) (opState k a n s))).1 = true)
    (h2 : destOk (opState k a n s) (flitOf .op (opPay k a n)) = true)
    (h3 : freshOk (opState k a n s) 4096 (flitOf .op (opPay k a n)) = true) :
    ∃ u, Passes 0 4096 (flitOf .op (opPay k a n)) (opState k a n s) u :=
  ⟨_, passes_of rfl h1 h2 h3⟩

/-- A WRITE, READs of bytes that may be read and may not, a GLUE, a CLAMP of each kind; and a WRITE under the compute fence. -/
theorem witness_OperationsArePerformed :
    (∀ k, k < 4 → (∃ u, Passes 0 4096 (flitOf .op (opPay (k + 1) 0 32)) (opState (k + 1) 0 32) u) ∧
      ((opOf (payload (flitOf .op (opPay (k + 1) 0 32)))).map (·.opk)) = [OpKind.write, .read, .glue, .clamp][k]? ∧
      computeFenced (opState (k + 1) 0 32) = false) ∧
    (let s := { ctx1 0 with fenced := [0x1000] }
     (∃ u, Passes 0 4096 (flitOf .op (opPay 1 0 32)) (opState 1 0 32 s) u) ∧ computeFenced (opState 1 0 32 s) = true) ∧
    (∃ u p, Passes 0 4096 (flitOf .op (opPay 2 0 32)) (opState 2 0 32) u ∧ opOf (payload (flitOf .op (opPay 2 0 32))) = some p ∧
      (readData (capture (flitOf .op (opPay 2 0 32)) (intakeIn (flitOf .op (opPay 2 0 32)) u)) p).2 ≠ .ok) ∧
    (∃ u p, Passes 0 4096 (flitOf .op (opPay 2 (2 ^ 33) 32)) (opState 2 (2 ^ 33) 32) u ∧
      opOf (payload (flitOf .op (opPay 2 (2 ^ 33) 32))) = some p ∧ (readData (capture (flitOf .op (opPay 2 (2 ^ 33) 32)) (intakeIn (flitOf .op (opPay 2 (2 ^ 33) 32)) u)) p).2 = .ok) := by
  refine ⟨fun k h => ⟨opState_passes _ ?_ ?_ ?_, ?_, ?_⟩, ⟨opState_passes _ ?_ ?_ ?_, ?_⟩,
    ⟨_, { opk := .read, tkt := 63, rowLen := 32, rows := 1 }, passes_of rfl ?_ ?_ ?_, ?_, ?_⟩,
    ⟨_, { opk := .read, tkt := 63, addr := 2 ^ 33, rowLen := 32, rows := 1 }, passes_of rfl ?_ ?_ ?_, ?_, ?_⟩⟩
  iterate 5 interval_cases k <;> decide +kernel
  all_goals decide +kernel

/-- Context 1 with `x`, bench 0 with ticket 63, and the flit `f` arrived. -/
def withFlow (f : Flit) (x : FlowSt) : State :=
  arrived f { ctx1 0 with chip := .run, flows := [(1, x)], benchMap := [0], benches := [(0, { tickets := [ticketAs .rread none none] })] }
def rxWrite (k : OpKind) : RxOp := { op := { opk := k, addr := 2 ^ 33, rows := 1, rowLen := 256 }, mc := false, got := [], status := .ok }
def txRead : TxOp := { tkt := 63, addr := 2 ^ 33, mstride := 0, rows := 1, read := some (xfer32 (2 ^ 33) 0), got := [], left := 0 }

/-- DATA of a WRITE and of a GLUE; the last RESP of a READ, and one before it; CREDIT and FACK that cover the one flit outstanding;
ERROR; and a context that waits. -/
theorem witness_DataAndReports :
    (∀ k, k < 2 → let r := rxWrite (if k = 0 then .write else .glue)
     let s := withFlow (flitOf .data [] (k == 0)) { rx := some r }
     ∃ u, Passes 0 4096 (flitOf .data [] (k == 0)) s u ∧ (flow u 1).rx = some r ∧ computeFenced s = false) ∧
    (∀ l : Bool, let s := withFlow (flitOf .resp [] l) { ops := [txRead] }
     ∃ u, Passes 0 4096 (flitOf .resp [] l) s u ∧ (flow u 1).ops.find? (·.read.isSome) = some txRead ∧
       tktFind u 63 = some (0, ticketAs .rread none none)) ∧
    (∀ k, k < 3 → let f := flitOf ([.credit, .fack, .error].getD k .credit) (leBytes 2 1 ++ leBytes 2 0 ++ leBytes 4 (63 * 2 ^ 19))
     let s := withFlow f { out := [0], ops := [txRead] }
     (∃ u, Passes 0 4096 f s u) ∧ (∀ b, b ∈ s.benchMap → b < 132) ∧
       (k = 1 → ackEntries (payload f) = [(63, .ok)]) ∧ tktFind s 63 = some (0, ticketAs .rread none none)) ∧
    (let s := withFlow (flitOf .data) { out := [0] }
     ctxValid s 1 = true ∧ ctxState s 1 = 1 ∧ ctxWaits s 1 = true ∧ ∀ b, b ∈ s.benchMap → b < 132) := by
  refine ⟨fun k h => ⟨_, passes_of rfl ?_ ?_ ?_, ?_, ?_⟩, fun l => ⟨_, passes_of rfl ?_ ?_ ?_, ?_, ?_⟩,
    fun k h => ⟨⟨_, passes_of rfl ?_ ?_ ?_⟩, ?_, ?_, ?_⟩, ?_⟩
  iterate 5 interval_cases k <;> decide +kernel
  iterate 5 cases l <;> decide +kernel
  iterate 6 interval_cases k <;> decide +kernel
  decide +kernel

/-- A first word that makes context 1 valid, one that ends it, one that keeps it; the other words; and the boundary of R291. -/
theorem witness_Contexts :
    (PageOpen (flowPage 1) ({ chip := .ready } : State) ∧ PageOpen (flowPage 3071) ({ chip := .ready } : State)) ∧
    (let s : State := { chip := .ready }
     (∀ k, k < 8 → lowest (ctxBad 1 k (if k = 1 then 32 else 0x88010001) s) = none) ∧ ctxValid s 1 = false) ∧
    (let s := { ctx1 1 with chip := .ready }
     lowest (ctxBad 1 0 0x08000001 s) = none ∧ lowest (ctxBad 1 0 0x88000001 s) = none ∧ ctxValid s 1 = true) ∧
    (let s : State := { setRegs [(Rg.LKD_EPOCH_NEXT 0, 0x7FFFFFFF)] (ctx1 0) with chip := .rest }
     CmdOpen [.ready, .quiesce, .rest, .test] s ∧ stepHeld s = false ∧
       serCmp 32 (rg s (Rg.LKD_EPOCH 0)).toNat (rg s (Rg.LKD_EPOCH_NEXT 0)).toNat = .before) ∧
    CmdOpen [.ready, .quiesce, .rest, .test] { chip := .test } := by
  refine ⟨⟨⟨by decide, by decide +kernel, by decide +kernel⟩, by decide, by decide +kernel, by decide +kernel⟩,
    by decide +kernel, by decide +kernel, ⟨⟨⟨by decide, by decide +kernel, by decide +kernel⟩, by decide, by decide +kernel⟩,
    by decide +kernel, by decide +kernel⟩, ⟨by decide, by decide +kernel, by decide +kernel⟩, by decide, by decide +kernel⟩

/-- Exchanges measured against A = 0: a delay of 0, of 1 unit, of an excursion, and of a fault; and an answer to a switch. -/
def meas (trx : Nat) : EchoMeas := { ttx := 0, trx := trx, h := 0, sg := 0, sched := 0, swId := 0, port := 0 }
theorem witness_Echo :
    (let s := upState 0 [] { active := some (listOf 0xC0000000) }
     let g := 2 ^ 20
     slotNew s 0 g = true ∧ inSlot s 0 g (10 * g) = true ∧ (spline s 0).rbuf.length < 64 ∧ isUp s 0 = true ∧ gateOpen s 0 = true ∧
       echoDue s 0 g = true ∧ (spline s 0).swap = none) ∧
    (let s := setRegs [(Rg.SPL_STAT 0, 0x20000000)]
     slotNew s 0 8 = true ∧ inSlot s 0 8 80 = true ∧ isTraining s 0 = true ∧ (spline s 0).echoAt = none ∧ (spline s 0).exch.length < 8 ∧
       (spline s 0).knockEnd ≤ 8) ∧
    (let s := upState 0 [] { echoAt := some 0 }
     isUp s 0 = true ∧ (spline s 0).echoAt = some 0 ∧ (spline s 0).needEcho = false ∧ bits (rg s (Rg.SPL_ECHO_STAT 0)) 2 0 < 3 ∧
       isTraining s 0 = false ∧
       ∀ k, k < 5 → let trx := [0, 4, 6, 20, 22].getD k 0
         let d := echoDelay (echoAsym s 0) 0 trx 0
         trx ≤ 40000 ∧ 0 ≤ d ∧ d ≤ 8191 ∧ gaugeDiff (gaugeTo (trx / 10) s) 0 0 d = false ∧ gaugeDiff (gaugeTo (trx / 10) s) 0 500 d = true ∧
           (k < 2 ↔ d.natAbs ≤ 2) ∧ (k < 4 ↔ d.natAbs ≤ 10)) ∧
    (let s := upState 0 [(Rg.SPL_ECHO_STAT 0, 3)] { echoAt := some 0 }
     (spline s 0).needEcho = false ∧ isTraining s 0 = false ∧ bits (rg s (Rg.SPL_ECHO_STAT 0)) 2 0 = 3) ∧
    (let s : State := { setRegs [(Rg.SPL_STAT 0, 0x40000000)] with splines := [(0, { echoAt := some 0 })] }
     isTraining s 0 = true ∧ (spline s 0).echoAt = some 0) ∧
    (let s := upState 0 [] { echoAt := some 0, needEcho := true }
     (spline s 0).echoAt = some 0 ∧ (spline s 0).needEcho = true ∧ isTraining s 0 = false ∧ word 0 = rg s (Rg.CUT_ACT_ID 0)) ∧
    (let s := upState 0 [] { rxq := [(8, flitOf .echoReq)] }
     (spline s 0).rxq = [(8, flitOf .echoReq)] ∧ (flitOf .echoReq).typ = .echoReq) := by decide +kernel

theorem witness_Splines :
    (let s := setRegs [(Rg.GAU_STAT, 2), (Rg.SPL_STAT 0, 0x00010000)] { chip := .run, splines := [(0, { active := some (listOf 0) })] }
     PageOpen (Pg.SPLINE 0) s ∧ lowest (splCtlBad 0 (rg s (Rg.SPL_CTL 0) &&& 0x3C000000 ||| 1) s) = none) ∧
    (PageOpen (Pg.SPLINE 0) (upState 0) ∧ isUp (upState 0) 0 = true ∧
      lowest (splCtlBad 0 (rg (upState 0) (Rg.SPL_CTL 0) &&& 0x3C000000 ||| 2) (upState 0)) = none) ∧
    (let s : State := { setRegs [(Rg.SPL_STAT 0, 0x40000000)] with splines := [(0, { exch := List.replicate 8 (meas 4) })] }
     let a := (median ((spline s 0).exch.map fun m => echoDelay (echoAsym s 0) m.ttx m.trx m.h) s).1
     linkState s 0 = linkEcho ∧ (spline s 0).exch.length = 8 ∧ a = 2 ∧ bit (rg s (Rg.SPL_CTL 0)) 27 = false ∧
       rg s (Rg.SPL_SCHED 0) = rg s (Rg.CUT_ACT_ID 0)) ∧
    linkState (setRegs [(Rg.SPL_STAT 0, 0x40000000)]) 0 = linkEcho := by
  refine ⟨⟨⟨by decide, by decide +kernel, by decide +kernel⟩, by decide +kernel⟩, ⟨⟨by decide, by decide +kernel, by decide +kernel⟩,
    by decide +kernel, by decide +kernel⟩, by decide +kernel, by decide +kernel⟩

/-- Nine lanes none bad, lane 1 bad with the spare 8 good, and lane 0 bad with no spare. -/
theorem witness_Lanes :
    let ls (n : Nat) : List (Nat × Nat × Bool) := (List.range 9).map fun y => (0, b2n (y = n), false)
    let s := upState 0 [(Rg.SPL_LANE_MAP 0, 0x76543210), (Rg.SPL_STAT 0, 0x60810000)]
    let t := upState 0 [(Rg.SPL_LANE_MAP 0, 0x76543210), (Rg.SPL_STAT 0, 0x60F10000)]
    let phy (j : Nat) : Nat := bits (rg s (Rg.SPL_LANE_MAP 0)) (4 * j + 3) (4 * j)
    let bad (n y : Nat) : Bool := laneBad s 0 ((ls n).getD y (0, 0, false))
    isUp s 0 = true ∧ (∀ j, j < 8 → bad 8 (phy j) = false) ∧
      (bad 1 (phy 1) = true ∧ (∀ i, i < 1 → bad 1 (phy i) = false) ∧ (spline s 0).swap = none) ∧
      bits (rg s (Rg.SPL_STAT 0)) 23 20 = 8 ∧ bad 1 8 = false ∧
      bits (rg t (Rg.SPL_STAT 0)) 23 20 = 15 ∧ isUp t 0 = true ∧ laneBad t 0 ((ls 0).getD 0 (0, 0, false)) = true ∧
      (let u := upState 0 [] { swap := some (7, 8) }; isUp u 0 = true ∧ (spline u 0).swap = some (7, 8)) := by decide +kernel

/-! ### Witnesses: lists, keys, the gauge and memory -/

/-- List images for spline 0 whose entry 511 is a FENCE slot, under their CRC and under another. -/
def image0 : List Byte := List.replicate 2044 0 ++ ([0, 0, 0, 0xC0] ++ leBytes 8 7)
def listImage (crc : Word) : List Byte := image0 ++ (leBytes 4 crc.toNat ++ List.replicate 52 0)
theorem image0_length : image0.length = 2056 := by
  simp only [image0, List.length_append, List.length_replicate, length_leBytes, List.length_cons, List.length_nil]
theorem listImage_crc (crc : Word) : leNat (((listImage crc).drop 2056).take 4) = crc.toNat ∧ (listImage crc).take 2056 = image0 := by
  rw [listImage, List.drop_left' image0_length, List.take_left' image0_length, List.take_left' (length_leBytes _ _)]
  exact ⟨leNat_leBytes 4 _ crc.isLt, rfl⟩
theorem listImage_length (crc : Word) : (listImage crc).length = imageSize := by
  simp [listImage, image0_length, imageSize]
theorem listImage_drop (crc : Word) (k : Nat) : (listImage crc).drop (2044 + k) =
    ([0, 0, 0, 0xC0] ++ leBytes 8 7 ++ (leBytes 4 crc.toNat ++ List.replicate 52 0)).drop k := by
  rw [listImage, image0, List.append_assoc, List.append_assoc, ← List.drop_drop, List.drop_left' List.length_replicate]
theorem leNat_zeros (n : Nat) : leNat (List.replicate n 0) = 0 := by
  induction n with
  | zero => rfl
  | succ n h => rw [List.replicate_succ, leNat, h]; rfl
theorem listImage_ents (crc : Word) : (chunks 4 512 (listImage crc)).map word =
    (List.range 512).map fun i => if i = 511 then 0xC0000000 else 0 := by
  rw [chunks, List.map_map]
  refine List.map_congr_left fun i hi => ?_
  rw [List.mem_range] at hi
  dsimp only [Function.comp]
  split
  · subst i; rw [show 511 * 4 = 2044 + 0 from rfl, listImage_drop]; simp [leNat]; rfl
  · rw [listImage, image0, List.append_assoc, List.drop_append_of_le_length (by rw [List.length_replicate]; omega), List.drop_replicate,
      List.take_append_of_le_length (by rw [List.length_replicate]; omega), List.take_replicate, leNat_zeros]; rfl
theorem imageBad_crc {x : Nat} {img : List Byte} (h : leNat ((img.drop 2056).take 4) ≠ (crc32 (img.take 2056)).toNat) :
    imageBad x false img = some (1, 0) := by
  unfold imageBad
  simp [h]
theorem imageBad_none {x : Nat} {img : List Byte} (h : leNat ((img.drop 2056).take 4) = (crc32 (img.take 2056)).toNat)
    (h1 : leNat ((img.drop 2052).take 1) = x)
    (h2 : firstEnt (fun e => entKind e = 1 && (decide (3072 ≤ entFlow e) || dieOf (entFlow e) != splDie x)) ((chunks 4 512 img).map word) = none)
    (h3 : (((chunks 4 512 img).map word).all fun e => entKind e ≠ 3) = false)
    (h4 : firstEnt entReserved ((chunks 4 512 img).map word) = none)
    (h5 : leNat ((img.drop 2053).take 3) = 0 ∧ leNat ((img.drop 2060).take 52) = 0) : imageBad x false img = none := by
  unfold imageBad
  simp only [h, h1, h2, h3, h4, h5.1, h5.2]
  simp
theorem listImage_good : imageBad 0 false (listImage (crc32 image0)) = none := by
  have h := listImage_crc (crc32 image0)
  have e := listImage_ents (crc32 image0)
  have d := listImage_drop (crc32 image0)
  refine imageBad_none (by rw [h.1, h.2]) ?_ ?_ ?_ ?_ ⟨?_, ?_⟩
  · rw [d 8]; simp [leNat, leBytes]
  · rw [e]; decide +kernel
  · rw [e]; decide +kernel
  · rw [e]; decide +kernel
  · rw [d 9]; simp [leNat, leBytes]
  · rw [d 16]; exact leNat_zeros 52
theorem crc_next (c : Word) : (c + 1).toNat ≠ c.toNat := by
  have := c.isLt
  rw [BitVec.toNat_add]
  simp
  omega
theorem listImage_bad (c : Word) (h : c = crc32 image0) : imageBad 0 false (listImage (c + 1)) = some (1, 0) := by
  apply imageBad_crc
  rw [(listImage_crc _).1, (listImage_crc _).2, ← h]
  exact crc_next c

theorem witness_Loads (l : List Byte) (h : l.length = imageSize) : let s := memPutAll 0 l bare
    let a := base48 s (Rg.CUT_IMG_LO 0)
    PageOpen (Pg.CUTLIST 0) s ∧ a + imageSize ≤ memEnd s ∧ rangeAny a imageSize (memUe s) = false ∧ memBytes s a imageSize = l := by
  have hs := memPutAll_shape l 0 bare
  have hr : ∀ a, rg (memPutAll 0 l bare) a = rg bare a := placed_rg l bare
  have hb : base48 (memPutAll 0 l bare) (Rg.CUT_IMG_LO 0) = 0 := by
    rw [show base48 (memPutAll 0 l bare) (Rg.CUT_IMG_LO 0) = base48 bare (Rg.CUT_IMG_LO 0) by simp only [base48, rg64, hr]]; decide +kernel
  have he : memEnd (memPutAll 0 l bare) = memEnd bare := by unfold memEnd; simp only [hr]
  dsimp only
  rw [hb, he]
  refine ⟨⟨by rw [hs]; rfl, by rw [hs]; rfl, by rw [hr]; decide +kernel⟩, by decide +kernel, ?_, h ▸ placed_bytes rfl l⟩
  · unfold rangeAny; rw [List.any_eq_false]; intro _ _; rw [placed_memUe rfl rfl]; decide

theorem witness_ListsAndKeys :
    (let s := setRegs [(Rg.CUT_STAT 0, 0x60000000), (Rg.CUT_MARK_LO 0, 4096), (Rg.SPL_KEY_MARK_LO 0, 4096)] { chip := .run }
     PageOpen (Pg.CUTLIST 0) s ∧ PageOpen (Pg.SPLINE 0) s ∧ bit (rg s (Rg.CUT_STAT 0)) 30 = true ∧ bit (rg s (Rg.CUT_STAT 0)) 29 = true ∧
       markAhead s (Rg.CUT_MARK_LO 0) = true ∧ markAhead s (Rg.SPL_KEY_MARK_LO 0) = true ∧ s.gauge < rg64 s (Rg.CUT_MARK_LO 0)) ∧
    (let s := upState 0 [(Rg.CUT_STAT 0, 0x60000000)] { pend := some (listOf 0) }
     bit (rg s (Rg.CUT_STAT 0)) 29 = true ∧ (spline s 0).pend = some (listOf 0)) ∧
    (let s := upState 0 [(Rg.SPL_KEY_CTL 0, 0x80000000)] { newKeys := (List.range 16).map fun k => (k, 0) }
     bit (rg s (Rg.SPL_KEY_CTL 0)) 31 = true ∧ isUp s 0 = true ∧ pairReady (spline s 0) = true) := by
  refine ⟨⟨⟨by decide, by decide +kernel, by decide +kernel⟩, ⟨by decide, by decide +kernel, by decide +kernel⟩, by decide +kernel⟩,
    by decide +kernel, by decide +kernel⟩

theorem witness_Gauge :
    (let s := setRegs [(Rg.GAU_STAT, 8)] { chip := .run }; PageOpen Pg.GAUGE s ∧ lowest (loadBad true 0 s) = none) ∧
    gauState (setRegs [(Rg.GAU_STAT, 1)]) = gauArmed ∧ gauState (setRegs [(Rg.GAU_STAT, 3)]) = gauHoldover ∧
    gauState (setRegs [(Rg.GAU_STAT, 0x302)]) = gauLocked ∧ gauTrusted (setRegs [(Rg.GAU_STAT, 0x302)]) = true ∧
    bits (rg (setRegs [(Rg.GAU_STAT, 0x302)]) Rg.GAU_STAT) 10 8 = 3 ∧ bits (rg (setRegs [(Rg.GAU_STAT, 2)]) Rg.GAU_STAT) 10 8 = 0 ∧
    ({} : State).gauAt + 1000 ≤ 10000 / 10 ∧
    (markOffset (10 * 2 ^ 24 - 15)).natAbs = 15 ∧ (markOffset 16).natAbs = 16 ∧ (markOffset 1001).natAbs = 1001 := by
  refine ⟨⟨⟨by decide, by decide +kernel, by decide +kernel⟩, by decide +kernel⟩, by decide +kernel⟩

theorem witness_Memory :
    0 < memEnd {} ∧ manageable ({ chip := .run } : State) = true ∧ (∀ k, k < 8 → stackState {} k ≠ 2) ∧
    (let s := setRegs [(Rg.JST_STAT 7, 0x40000000)]
     stackState s 7 = 2 ∧ bits (rg s (Rg.JMC_RELOC_PROG 0)) 27 0 < stackGranules) ∧
    (let s : State := { chip := .run }
     let gc := chanOf s 64
     scrubOn s = true ∧ scrubOn { chip := .nap } = false ∧ gc < 256 ∧ 64 < memEnd s ∧ scrubWindow s gc (260 * (gc % 15)) = true ∧ scrubWindow s gc (260 * (gc % 15) + 260) = false ∧
       burstBad s 64 = false ∧ burstBad { memBad := [4] } 64 = true) ∧
    (let s : State := setRegs [(Rg.CAB_STAT, 0x80000000)] { chip := .run, l2 := [(1, List.replicate 64 1)] }
     loaderLocked s = true ∧ 64 + 64 ≤ memEnd s ∧ spGet [] 1 s.l2 ≠ [] ∧ 1 ∈ l2Lines 64 64 ∧ lockedLine s 1 = false ∧
       (∀ k, k ∈ l2Lines 64 128 → rangeAny (64 * k) 64 (memUe s) = false) ∧ ∀ e, e ∈ s.l2 → e.2.length ≤ 64) ∧
    (parHits { parAt := [24] } 96 32 = [24] ∧ parHits {} 96 32 = []) ∧
    (let s := setRegs [(Rg.JST_STAT 0, 86)]; 85 < stackTemp s 0 ∧ bit (rg s (Rg.JST_STAT 0)) 16 = false) ∧
    (let s := setRegs [(Rg.JST_STAT 0, 0x10052)]; stackTemp s 0 ≤ 82 ∧ bit (rg s (Rg.JST_STAT 0)) 16 = true) ∧
    (let s : State := { chip := .run }
     memEnd s - 32 + 32 ≤ memEnd s ∧ rangeAny (memEnd s - 32) 32 (memUe s) = false ∧ unitWriteOk s (memEnd s - 32) 32 = true ∧
       memEnd s < memEnd s - 31 + 32 ∧ unitWriteOk s (memEnd s - 31) 32 = false ∧
       (∀ i, i < 32 → ∀ k, k < 32 → memLoc s (memEnd s - 32 + i) = memLoc s (memEnd s - 32 + k) → i = k)) ∧
    (∀ f, f < 3 → let s : State := { chip := .run }
     let a := 2 ^ 33 + 96
     fmtFx (0x10 + f) = true ∧ (List.replicate (glueSize (0x10 + f)) (0xFF : Byte)).length = glueSize (0x10 + f) ∧ a % 32 = 0 ∧ s.chip ≠ .rest ∧
       remoteWriteStatus s a (glueSize (0x10 + f)) = .ok ∧ remoteWriteStatus s (2 ^ 33) 2 = .ok ∧
       rangeAny a (glueSize (0x10 + f)) (memUe s) = false ∧ rangeAny (2 ^ 33) 2 (memUe s) = false) := by
  refine ⟨by decide +kernel, by decide +kernel, by decide +kernel, by decide +kernel, by decide +kernel, by decide +kernel,
    by decide +kernel, by decide +kernel, by decide +kernel, by decide +kernel, by decide +kernel⟩

theorem witness_RegionsAndStacks :
    (let s := setRegs [(Rg.JMC_GRn_BASE_HI 0 63, 2)] { chip := .run }
     PageOpen (Pg.JMC 7) s ∧ lowest (guardCtlBad 63 0x85000000 s) = none) ∧
    (let s : State := { setRegs [(Rg.CHIP_CMD_ARG0, 7), (Rg.HOLD_TO, 100000), (Rg.JMC_TKT_TO 0, 100000)] with chip := .rest, stepSt := .run }
     CmdOpen inRUQST s ∧ (∀ k, k < 8 → k ≠ 7 → stackState s k ≠ 1 ∧ stackState s k ≠ 2) ∧ stackState s 7 ≠ 3 ∧
       100000 ≤ (rg s Rg.HOLD_TO).toNat ∧ 100000 ≤ (rg s (Rg.JMC_TKT_TO 0)).toNat) ∧
    (let s := setRegs [(Rg.JST_STAT 7, 0x20000000), (Rg.COMMAND_STATUS, 0x80050001)]
     stackState s 7 = 1 ∧ (∀ k, k < 7 → stackState s k ≠ 1) ∧ rg s Rg.COMMAND_STATUS = cmdWait 0x05 1) ∧
    (∀ k, k < 2 → let s : State := { setRegs [(Rg.JST_STAT 0, word (k * 0x80000000))] with chip := .test }
     CmdOpen inRUQT s ∧ s.retired = false ∧ stackState s 0 = 4 * k ∧
       (∀ r, r ∈ regionsOf s 0 → overlap r.base (2 * r.size) reliefBase reliefSize = false)) ∧
    (let s := setRegs [(Rg.JST_STAT 7, 0x40000000), (Rg.COMMAND_STATUS, 0x80060001)]
     stackState s 7 = 2 ∧ (∀ k, k < 7 → stackState s k ≠ 2) ∧ rg s Rg.COMMAND_STATUS = cmdWait 0x06 1) := by
  refine ⟨⟨⟨by decide, by decide +kernel, by decide +kernel⟩, by decide +kernel⟩,
    ⟨⟨⟨by decide, by decide +kernel, by decide +kernel⟩, by decide, by decide +kernel⟩, by decide +kernel⟩, by decide +kernel,
    fun k h => ⟨⟨⟨?_, ?_, ?_⟩, ?_, ?_⟩, ?_⟩, by decide +kernel⟩
  iterate 6 interval_cases k <;> decide +kernel

/-! ### Witnesses: fences, resets, swaps, controllers, rest and power -/

def resetOf (d : Nat) (run : Bool) (was : List (Nat × Nat) := []) : ResetSt := { dom := d, running := run, was := was, late := false }
def inReset (d : Nat) (run : Bool) (l : List (Nat × Word) := []) (was : List (Nat × Nat) := []) : State :=
  { setRegs l with chip := .run, fenced := [d], resets := [resetOf d run was] }

theorem witness_DomainResetsAsked :
    (let s : State := { chip := .rest }; CmdOpen inRUQST s ∧ resetting s 0x1000 = false) ∧
    (let s := setRegs [(Rg.CHIP_CMD_ARG0, 131)] { chip := .run }
     CmdOpen inRUQST s ∧ 131 = bits (arg0 s) 7 0 ∧ resetting s (benchDom 131) = false ∧ logOf s 131 = none) ∧
    (let s := setRegs [(Rg.CHIP_CMD_ARG0, 131), (Rg.STATE (Pg.BENCH 131), 4)] { chip := .run, benchMap := [131] }
     CmdOpen inRUQST s ∧ logOf s 131 = some 0 ∧ blkState s (Pg.BENCH 131) = 4 ∧ stepLive s = false) ∧
    (∀ k, k < 3 → let s := setRegs [(Rg.CHIP_CMD_ARG0, word ([0, 0x3000, 0x3001].getD k 0))] { chip := .run }
     CmdOpen inRUQST s ∧ bits (arg0 s) 15 0 = [0, 0x3000, 0x3001].getD k 0 ∧ resetting s (bits (arg0 s) 15 0) = false) := by
  refine ⟨⟨cmdOpen_of ?_, ?_⟩, ⟨cmdOpen_of ?_, ?_⟩, ⟨cmdOpen_of ?_, ?_⟩, fun k h => ⟨cmdOpen_of ?_, ?_⟩⟩
  iterate 6 decide +kernel
  iterate 2 interval_cases k <;> decide +kernel

/-- A domain of each kind that is fenced and drained, and one that waits for its drain. -/
theorem witness_DomainResetsStart : ∀ k, k < 5 → let d := [0, 0x1000, 0x2083, 0x3000, 0x3001].getD k 0
    let s := inReset d false [(Rg.STATE (Pg.BENCH 131), 4)]
    s.resets.any (fun r => r.dom = d && !r.running) = true ∧ inLarger s d = false ∧ drained d s = true ∧
      (k = 2 → d = benchDom 131 ∧ blkState s (Pg.BENCH 131) ≠ 0) := by
  decide +kernel

theorem witness_ResetsComplete :
    (let s := { inReset (benchDom 131) true [(Rg.COMMAND_STATUS, 0x80020001)] [(131, 4)] with benchMap := [131] }
     s.resets = [resetOf (benchDom 131) true [(131, 4)]] ∧ (logOf s 131).isSome = true ∧ rg s Rg.COMMAND_STATUS = cmdWait 0x02 1) ∧
    (let w := [(0, 2), (131, 6)]
     let s := inReset 0x1000 true [(Rg.COMMAND_STATUS, 0x80010001)] w
     s.resets = [resetOf 0x1000 true w] ∧ s.hold = .none ∧ (∀ e, e ∈ w → e.1 < 132 ∧ e.2 < 16) ∧ (w.map (·.1)).Nodup ∧
       rg s Rg.COMMAND_STATUS = cmdWait 0x01 1 ∧ fencedDom s 0 = false) ∧
    (∀ i, i < 2 → (inReset (0x3000 + i) true).resets = [resetOf (0x3000 + i) true]) ∧
    (let s := { inReset 0 true with chip := .boot }; s.resets = [resetOf 0 true] ∧ s.chip = .boot) ∧
    (let s := inReset (benchDom 131) true
     resetting s (benchDom 131) = true ∧ inLarger s (benchDom 131) = false ∧ resetting s 0x1000 = false ∧ restable s) ∧
    (let s := { inReset 0 true with chipTries := 2 }; resetting s 0 = true ∧ inLarger s 0 = false ∧ 2 ≤ s.chipTries) := by
  unfold restable
  decide +kernel

/-- A swap between steps, one in a step; a copy under the swap's own hold, and one of stopped streams. -/
theorem witness_Swaps :
    (∀ k, k < 2 → let s : State := { setRegs [(Rg.CHIP_CMD_ARG0, 0x18300), (Rg.STATE (Pg.BENCH 131), 6), (Rg.STATE (Pg.BENCH 0), 2), (Rg.HOLD_TO, 200)]
       with chip := .run, benchMap := [0], stepSt := if k = 0 then .none else .run }
     CmdOpen [.ready, .run, .test] s ∧ bits (arg0 s) 6 0 = 0 ∧ bits (arg0 s) 15 8 = 131 ∧ blkState s (Pg.BENCH 131) = 6 ∧
       physOf s 0 = some 0 ∧ blkState s (Pg.BENCH 0) = 2 ∧ 200 ≤ (rg s Rg.HOLD_TO).toNat ∧ s.swap = none ∧ freezing s = false ∧
       (∀ r, r ∈ s.resets → domHolds r.dom 0x1000 = false) ∧ (∀ j, j < 8 → stackState s j ≠ 1) ∧ bits (arg0 s) 17 16 ≠ 3) ∧
    (∀ h : Bool, let w : SwapSt := { l := 0, p := 131, disp := 1, held := h }
     let s : State := { setRegs [(Rg.COMMAND_STATUS, 0x80030001)] with
                        chip := .run, benchMap := [0], swap := some w, hold := if h then .frozen else .none }
     s.swap = some w ∧ physOf s 0 = some 0 ∧ swapQuiet s 0 = true ∧ (h = true ∨ s.hold = .none ∧ streamsBusy s = false) ∧
       (bench s 0).trayBad = [] ∧ rg s Rg.COMMAND_STATUS = cmdWait 0x03 1) := by
  refine ⟨fun k h => ⟨cmdOpen_of ?_, ?_⟩, by decide +kernel⟩
  iterate 2 interval_cases k <;> decide +kernel

theorem witness_Tests :
    (let s := setRegs [(Rg.CHIP_CMD_ARG0, 131), (Rg.STATE (Pg.BENCH 131), 5), (Rg.STATE Pg.TEST, 2)] { chip := .run }
     CmdOpen inRUQST s ∧ bits (arg0 s) 7 0 = 131 ∧ inTest s 131 = true ∧ s.testing = none ∧ blkState s Pg.TEST = 2) ∧
    (let s := setRegs [(Rg.STATE (Pg.BENCH 131), 5), (Rg.COMMAND_STATUS, 0x80040001)] { testing := some 131 }
     s.testing = some 131 ∧ inTest s 131 = true ∧ rg s Rg.COMMAND_STATUS = cmdWait 0x04 1) := by
  exact ⟨⟨cmdOpen_of (by decide +kernel), by decide +kernel⟩, by decide +kernel⟩

def anImage : ImgInfo := { cls := 4, owner := false, key := 0, svn := 0, version := 0, digest := [] }
theorem witness_Controllers :
    (let s := setRegs [(Rg.CHIP_CMD_ARG0, 0x50C7), (Rg.CHIP_CMD_ARG1, 1)] { chip := .run, fw := [(0x50C7, { b := some anImage })] }
     CmdOpen inRUQST s ∧ bits (arg0 s) 15 0 = 0x50C7 ∧ bits (arg1 s) 0 0 = 1 ∧ fwCode 0x50C7 = true ∧
       ((fwUnit s 0x50C7).slot 1).isSome = true ∧ fencedDom s 0x50C7 = false ∧ (∀ r, r ∈ s.restarts → r.cmd = false) ∧ stackState s 7 ≠ 1 ∧ stackState s 7 ≠ 2) ∧
    (∀ c : Bool, let r : Restart := { dom := 0x50C7, slot := 1, cmd := c, link := 0, blk := 2 }
     let s := setRegs [(Rg.COMMAND_STATUS, 0x80070001)] { restarts := [r], fw := [(0x50C7, { a := some anImage, run := some 0 })] }
     fwCode 0x50C7 = true ∧ s.restarts = [r] ∧ r.dom = 0x50C7 ∧ r.cmd = c ∧ (fwUnit s 0x50C7).run = some 0 ∧
       rg s Rg.COMMAND_STATUS = cmdWait 0x07 1) ∧
    (let s : State := { fw := [(0x50C7, { a := some anImage, run := some 0 })] }
     (fwUnit s 0x50C7).run = some 0 ∧ ∀ r, r ∈ s.restarts → r.dom ≠ 0x50C7) := by
  exact ⟨⟨cmdOpen_of (by decide +kernel), by decide +kernel⟩, by decide +kernel⟩

/-- 128 mapped benches in service. -/
def mapped : State := inService { chip := .quiesce }
theorem witness_Rest :
    CmdOpen inRUQT { chip := .test } ∧
    (let s := setRegs [(Rg.GAU_STAT, 2)] { chip := .rest }
     CmdOpen [.rest] s ∧ rg s Rg.PLUMB_REST_PEND = 0 ∧ gauState s = gauLocked ∧ s.fenced = [] ∧ s.resets = []) ∧
    CmdOpen [.ready, .run] { chip := .run } ∧ CmdOpen [.quiesce] mapped ∧ mapped128 mapped = true :=
  ⟨cmdOpen_of (by decide +kernel), ⟨cmdOpen_of (by decide +kernel), by decide +kernel⟩, cmdOpen_of (by decide +kernel),
   cmdOpen_of (by decide +kernel), by decide +kernel⟩

theorem witness_PowerStates :
    (let s : State := { chip := .quiesce }; CmdOpen [.ready, .quiesce] s ∧ lowest (powerBad s) = none) ∧
    (let s := setRegs [(Rg.COMMAND_STATUS, 0x800B0001)] { chip := .nap, wakeReq := some 3, benchMap := [131] }
     s.wakeReq = some 3 ∧ (∀ b, b ∈ s.benchMap → b < 132) ∧ rg s Rg.COMMAND_STATUS = cmdWait 0x0B 1) ∧
    (let s := inService { chip := .nap, wakeReq := some 3 }
     s.benchMap.length = 128 ∧ ∀ b, b ∈ s.benchMap → b < 132 ∧ blkState s (Pg.BENCH b) ≠ 0) ∧
    (let s : State := { chip := .deep, wakeReq := some 3 }; s.chip = .deep ∧ s.wakeReq = some 3) ∧
    (let s := setRegs [(Rg.PWR_WAKE_EN, 0xE)] { chip := .deep }
     s.wakeReq = none ∧ bit (rg s Rg.PWR_WAKE_EN) 1 = true ∧ bit (rg s Rg.PWR_WAKE_EN) 2 = true ∧ bit (rg s Rg.PWR_WAKE_EN) 3 = true) ∧
    (let s := setRegs [(Rg.PWR_STAT, 0x40000000), (Rg.PWR_WAKE_EN, 8)] { chip := .ready }
     pstate s = 1 ∧ bit (rg s Rg.PWR_WAKE_EN) 3 = true) :=
  ⟨⟨cmdOpen_of (by decide +kernel), by decide +kernel⟩, by decide +kernel⟩

theorem witness_Power :
    (let s := setRegs [(Rg.CHIP_CMD_ARG0, 3)] { chip := .ready }
     CmdOpen [.ready, .quiesce, .test] s ∧ fencedDom s 0x5200 = false ∧ bits (arg0 s) 2 0 ≤ 3) ∧
    (let s : State := { chip := .run }; clocked s = true ∧ bit (rg s Rg.PWR_STAT) 16 = false) ∧
    (let s := setRegs [(Rg.PWR_STAT, 0x00010000), (Rg.PWR_THR_CTL, 10)]; bit (rg s Rg.PWR_STAT) 16 = true ∧ 10 * 0 < 9 * thrLimit s) ∧
    (let s : State := { chip := .run }; manageable s = true ∧ restable s ∧ s.hbMiss = false) ∧
    (let s : State := { chip := .run }
     (∃ t, exec (.supplyFault none) s = .next t ∧ manageable t = true) ∧ bits (rg s Rg.AVS_VMAX) 9 0 + 25 < 1100 ∧
       let r := inReset (benchDom 131) true
       manageable r = true ∧ resetting r (benchDom 131) = true ∧ inLarger r (benchDom 131) = false) ∧
    (let s : State := { chip := .run, hbMiss := true }; manageable s = true ∧ s.hbMiss = true ∧ resetting s 0x4000 = false) ∧
    (let s := upState 0; manageable s = true ∧ gauTrusted s = true) ∧
    (let s := setRegs [(Rg.PLUMB_HB_LAST, 0xFFFF)] { chip := .run }
     PageOpen Pg.PLUMB s ∧ bits (0 : Word) 15 0 = (bits (rg s Rg.PLUMB_HB_LAST) 15 0 + 1) % 2 ^ 16 ∧
       ¬ bits (1 : Word) 15 0 = (bits (rg s Rg.PLUMB_HB_LAST) 15 0 + 1) % 2 ^ 16) := by
  unfold restable
  exact ⟨⟨cmdOpen_of (by decide +kernel), by decide +kernel⟩, by decide +kernel, by decide +kernel, by decide +kernel,
    ⟨⟨_, rfl, by decide +kernel⟩, by decide +kernel⟩, by decide +kernel, by decide +kernel, pageOpen_of (by decide +kernel), by decide +kernel⟩

/-! ### Witnesses: boot, management, security and access -/

theorem witness_Boots : ({} : State).chip = .off ∧
    (let s := setRegs [(Rg.GAU_STAT, 2)] { chip := .calib, bootsel := 2 }
     s.chip = .calib ∧ s.resets = [] ∧ (∀ j, j < 8 → stackState s j = 0) ∧ gauState s = gauLocked ∧
       128 ≤ ((List.range 132).filter fun b => !benchFused s b && !([0, 1, 2, 131] : List Nat).contains b).length ∧
       (∀ c, c < 12 → bit (rg s Rg.PLUMB_REST_PEND) c = false) ∧ bit (rg s (Rg.JMC_STAT 0)) 0 = false) := by decide +kernel

theorem witness_BlockStates :
    (let s := setRegs [(Rg.STATE (Pg.BENCH 131), 6)] { chip := .run }
     regInst (Pg.SEQ 131) < pageCount (regCls (Pg.SEQ 131)) ∧ regOff (Pg.SEQ 131) = 0 ∧ Pg.SEQ 131 < 2 ^ 26 ∧ PageOpen (Pg.SEQ 131) s ∧
       blockPage (Pg.SEQ 131) = Pg.BENCH 131 ∧ bit (rg s (Rg.STATE (Pg.BENCH 131))) 31 = false ∧
       requestOk s (Pg.BENCH 131) (blkState s (Pg.BENCH 131)) (bits (5 : Word) 3 0) = true ∧
       requestOk s (Pg.BENCH 131) (blkState s (Pg.BENCH 131)) (bits (2 : Word) 3 0) = false) ∧
    bit (rg (setRegs [(Rg.STATE (Pg.BENCH 131), 0x80000006)]) (Rg.STATE (Pg.BENCH 131))) 31 = true := by
  exact ⟨⟨by decide +kernel, by decide +kernel, by decide +kernel, pageOpen_of (by decide +kernel), by decide +kernel⟩, by decide +kernel⟩

/-- Rings of one descriptor each at 2^33, owned by the chip, whose buffer is at 2^33 + 4096. -/
def memOf (a : Nat) (bs : List Nat) : List Host.Cell := bs.zipIdx.map fun p => (a + p.2, BitVec.ofNat 8 p.1)
def ringState : State :=
  { setRegs [(Rg.MGP_RX_CTL, 0x80000000), (Rg.MGP_RX_BASE_HI, 2), (Rg.MGP_TX_CTL, 0x80000000), (Rg.MGP_TX_BASE_HI, 2), (Rg.MGP_TX_WR, 1)] with
    chip := .run, mem := memOf (2 ^ 33) (words4 [4096, 2, 0x80000040, 0, 0, 0, 0, 0]) }
def aFrame (ty : Byte) : Frame := { dst := 0, src := 1, etype := 0x88B5, pay := [ty, 0, 7, 0], crcOk := true }

theorem witness_Frames :
    (let s := ringState
     let f := { aFrame 3 with dst := 9 }
     let d := descAt rxRing (rg s Rg.MGP_RX_WR) s
     manageable s = true ∧ f.dst ≠ stationMac s ∧ (frameBytes f).length ≤ 2048 ∧ ringOn rxRing s = true ∧
       ringUsed s Rg.MGP_RX_WR Rg.MGP_RX_RD < ringSize rxRing s ∧ rangeAny d 32 (memUe s) = false ∧ descOwned s d = true ∧
       unitWriteOk s (descBuffer s d) (frameBytes f).length = true ∧ unitWriteOk s d 32 = true ∧ { f with crcOk := false }.crcOk = false) ∧
    ((aFrame 3).etype = commandEtype ∧ (aFrame 3).dst = stationMac ringState ∧ (aFrame 3).crcOk = true ∧ (aFrame 3).pay.getD 0 0 = 3) ∧
    (let s := ringState
     let d := descAt txRing (rg s Rg.MGP_TX_RD) s
     let n := leNat (memBytes s (d + 8) 2)
     ringOn txRing s = true ∧ rg s Rg.MGP_TX_WR ≠ rg s Rg.MGP_TX_RD ∧ rangeAny d 32 (memUe s) = false ∧ descOwned s d = true ∧
       unitWriteOk s d 32 = true ∧ descBuffer s d + n ≤ memEnd s ∧ rangeAny (descBuffer s d) n (memUe s) = false ∧ n = 64) := by
  decide +kernel

/-- Two events, in DIRECT mode, in a full ring and in one with room. -/
theorem witness_Events :
    (∀ k, k < 3 → let e : Ev := { sg := 5, page := 0, code := 0x301, w4 := 0, w5 := 0, stepN := 0, epoch := 0 }
     let s := setRegs [(Rg.EVC_CTRL, if k = 0 then 0xC0000000 else 0x80000000), (Rg.EVC_WR, if k = 1 then 1 else 0), (Rg.EVC_RING_BASE_HI, 2)]
       { chip := .run, gauge := 9, evq := [{ e with sg := 6 }, e] }
     nextEvent s = some e ∧ evcDirect s = decide (k = 0) ∧ (evcSize s ≤ ringUsed s Rg.EVC_WR Rg.EVC_RD ↔ k = 1) ∧
       unitWriteOk s (evcBase s + 32 * ((rg s Rg.EVC_WR).toNat % evcSize s)) 32 = true ∧ parHits s (evcBase s) 32 = [] ∧
       parHits { s with parAt := [2 ^ 31] } (evcBase s) 32 ≠ []) ∧
    (let s := setRegs [(Rg.EVC_CTRL, 0x80000001), (Rg.EVC_WR, 1)] { chip := .run, unread := [(5, 1)] }
     evcDirect s = false ∧ unreadOf s = [(5, 1)] ∧ 5 + coalTime s < 2 ^ 64) ∧
    evSev 0x301 < 2 := by decide +kernel

def sample : TelSample :=
  { g := 0, temps := List.replicate 64 50, dies := List.replicate 8 60, rails := List.replicate 9 { mv := 0, ia := 0, pw := 0, fails := 0, avs := true, cmd := 0, status := 0 }, mw := 0 }
theorem witness_Telemetry : sampleOk sample = true ∧
    (let s := setRegs [(Rg.TEL_CTRL, 0x80000000)] { chip := .run }
     manageable s = true ∧ sample.g % 2 ^ 20 = 0 ∧ s.chip ≠ .nap ∧ sample.g / 2 ^ 20 % 2 ^ bits (rg s Rg.TEL_CTRL) 26 24 = 0 ∧
       bit (rg s Rg.TEL_CTRL) 31 = true) ∧ bit (rg {} Rg.TEL_CTRL) 31 = false := by decide +kernel

theorem witness_Security :
    (let s := setRegs [(Rg.SEC_ARG0, 0x52000006)] { chip := .run }; PageOpen Pg.SEC s ∧ lowest (verifyLoadBad s) = none) ∧
    (let s : State := { chip := .run }; PageOpen Pg.SEC s ∧ lowest (patVerifyBad s) = none ∧ secFits s 4608 = true ∧
       srcUe s (secAddr s + 8) 64 = false ∧ unitWriteOk s (secAddr s) 4608 = true ∧ ownerSet s 0 = false ∧ s.cabImg = none ∧
       srcUe s (secAddr s) 48 = false ∧ liveImages s = []) ∧
    (let s := setRegs [(Rg.SEC_ARG0, 0x4006)] { chip := .run, fw := [(0x5200, { a := some { anImage with svn := 64 }, run := some 0 })] }
     bits (secArg0 s) 7 0 = 6 ∧ bits (secArg0 s) 15 8 = 64 ∧ arbOf s 6 < 64 ∧ runsAtLeast s 6 64 = true) ∧
    (let s := setRegs [(Rg.SEC_ARG0, 0x103), (Rg.FUSE_KEYS, 0x800)] { chip := .run }
     bit (secArg0 s) 8 = true ∧ ownerSet s 3 = true ∧ bits (secArg0 s) 1 0 = 3) := by
  exact ⟨⟨pageOpen_of (by decide +kernel), by decide +kernel⟩, ⟨pageOpen_of (by decide +kernel), by decide +kernel⟩, by decide +kernel⟩

/-- An unlock token for the part, with no nonce drawn. -/
def deviceId (n : Nat) : List Byte := leBytes 4 (rg {} (Rg.SEC_DEVICE_IDn n)).toNat
def tokenImage : List Byte :=
  [0x60, 0xDB, 0x91, 0xAE, 0, 0, 0, 0] ++ (deviceId 0 ++ (deviceId 1 ++ (deviceId 2 ++ (deviceId 3 ++ List.replicate 24 0))))
theorem token_at (n : Nat) (h : n < 4) : leNat ((tokenImage.drop (8 + 4 * n)).take 4) = (rg {} (Rg.SEC_DEVICE_IDn n)).toNat := by
  rw [← leNat_leBytes 4 (rg {} (Rg.SEC_DEVICE_IDn n)).toNat (BitVec.isLt _)]
  interval_cases n <;> rfl

theorem witness_Unlock (good : Bool) : let s := memPutAll 0 tokenImage { chip := .run }
    let v : Verdict := { hash := good, ed := true, ml := true, digest := [] }
    PageOpen Pg.SEC s ∧ stepHeld s = false ∧ secFits s 5408 = true ∧ resetting s 0 = false ∧ (tokenCode s (secAddr s) v = 0 ↔ good = true) := by
  intro s v
  have hs : s = _ := memPutAll_shape tokenImage 0 { chip := .run }
  have hr : ∀ a, rg s a = rg {} a := fun a => placed_rg tokenImage { chip := .run } a
  have ha : secAddr s = 0 := by
    rw [show secAddr s = secAddr {} by unfold secAddr base48 rg64; simp only [hr]]; decide +kernel
  have hm (k n : Nat) (h : k + n ≤ 48) : memNat s k n = leNat ((tokenImage.drop k).take n) := by
    unfold memNat; rw [placed_at rfl (by simpa [tokenImage, deviceId] using h)]
  have hu : srcUe s 0 5408 = false := by
    have h : rangeAny 0 5408 (memUe s) = false := by
      unfold rangeAny; rw [List.any_eq_false]; intro _ _; rw [placed_memUe rfl rfl]; decide
    unfold srcUe; rw [h, Bool.and_false]
  have hz : memZero s (0 + 0x2C) 4 = true := by
    have h : memBytes s 0x2C 4 = [0, 0, 0, 0] := (placed_at rfl (by simp [tokenImage, deviceId])).trans (by rfl)
    simp only [memBytes, show List.range 4 = [0, 1, 2, 3] from rfl, List.map_cons, List.cons.injEq] at h
    simp [memZero, rangeAny, show List.range 4 = [0, 1, 2, 3] from rfl, h]
  have hid : (List.range 4).any (fun n => memNat s (0 + 8 + 4 * n) 4 ≠ (rg s (Rg.SEC_DEVICE_IDn n)).toNat
      || memNat s (0 + 0x18 + 4 * n) 4 ≠ (rg s (Rg.DBG_NONCEn n)).toNat) = false := by
    rw [List.any_eq_false]
    intro n hn
    rw [List.mem_range] at hn
    rw [Nat.zero_add, Nat.zero_add, hm _ _ (by omega), hm _ _ (by omega), token_at n hn, hr, hr]
    have : leNat ((tokenImage.drop (0x18 + 4 * n)).take 4) = (rg {} (Rg.DBG_NONCEn n)).toNat := by
      interval_cases n <;> decide +kernel
    simp [this]
  refine ⟨⟨by rw [hs]; rfl, by rw [hs]; rfl, by rw [hr]; decide +kernel⟩, by rw [hs]; rfl, ?_, by rw [hs]; rfl, ?_⟩
  · unfold secFits; rw [ha, show memEnd s = memEnd {} by unfold memEnd; simp only [hr]]; decide +kernel
  · rw [ha]
    unfold tokenCode
    rw [hu, hid, hz, hm 0 4 (by omega), Nat.zero_add, hm 4 4 (by omega)]
    unfold keyRevoked
    simp only [hr]
    cases good <;> decide +kernel

theorem witness_Flash : let s := setRegs [(Rg.BOOT_XSPI_MEM_HI, 2), (Rg.BOOT_XSPI_LEN, 32)] { chip := .run }
    PageOpen Pg.BOOT s ∧ s.chip ≠ .boot ∧ xspiFits s = true ∧ unitWriteOk s (xspiMem s) (xspiLen s) = true ∧
      srcUe s (xspiMem s) (xspiLen s) = false ∧ xspiLen s = 32 :=
  ⟨pageOpen_of (by decide +kernel), by decide +kernel⟩

theorem witness_Pairs : let s : State := { chip := .run }
    let a := Rg.GAU_NOW_LO
    a < 2 ^ 26 ∧ manageable s = true ∧ pairLow a = true ∧ (rowAt a).isSome = true ∧ (rowAt (a + 4)).isSome = true ∧
      spFind a s.latch = none := by decide +kernel

/-- A read, a byte read, one outside; a write taken, and one refused. -/
theorem witness_Access : let s : State := { chip := .run }
    manageable s = true ∧ widthBad 0 1 = true ∧ bit (rg s (Rg.REFUSED (refusalPage 0))) 31 = false ∧
      spFind Rg.HOLD_TO s.latch = none ∧ PageOpen (regPage Rg.HOLD_TO) s ∧
      (match rowAt Rg.HOLD_TO with
        | some r => (actWrite Rg.HOLD_TO r 1 { s with cabFault := false }).isNone && lowest (writeBad Rg.HOLD_TO r 1 s) == none &&
            lowest (writeBad Rg.HOLD_TO r 0 s) == some rsValue
        | none => false) = true :=
  ⟨by decide, by decide, by decide +kernel, by decide, pageOpen_of (by decide +kernel), by decide +kernel⟩

theorem witness_Fixed : let s : State := { chip := .run, stepSt := .opened }; stepLive s = true ∧ PageOpen Pg.SEALU s :=
  ⟨by decide, pageOpen_of (by decide +kernel)⟩
theorem witness_OneCommand : let s := setRegs [(Rg.COMMAND_STATUS, 0x80010001)] { chip := .run }; cmdBusy s = true ∧ PageOpen Pg.CHIP s :=
  ⟨by decide +kernel, pageOpen_of (by decide +kernel)⟩

/-! ### Witnesses: the machine as a whole -/

theorem witness_Machine : State.wf State.reset = true ∧ State.reset.pending = [] ∧
    (let s : State := { pending := [.gmarkMissing, .stepOpen] }; s.pending = [.gmarkMissing, .stepOpen] ∧ State.wf s = true ∧
      ∃ t, step s = .next t ∧ t.pending = [.stepOpen]) := by
  exact ⟨by decide, rfl, rfl, by decide, _, rfl, by decide +kernel⟩

/-! ### Ill-formed commands are refused -/

/-- One command for each check of `Instr.wf`, ill-formed in that alone. -/
theorem test_illFormed : ([
    .nop 132 .f {}, .clampUpdate true 0 64 0, .clampUpdate false 0 256 0, .sealTokenReceive 16, .xrefBegin 8, .guardRegionWrite 0 64 0,
    .flowTimeout 3072, .flowContextWrite 0 8 0, .shadowCompare 0 256, .ticketComplete 0 64 [], .ticketComplete 0 0 [(2 ^ 48, 1)],
    .prefetchBlockArrive 0 .f (2 ^ 26) [], .prefetchBlockArrive 0 .f 0 [64], .holdDetect 8 (.ticket 0 0), .holdDetect 0 (.ticket 0 64),
    .slotTransmit 0 9 false, .slotReceive 0 9 0 (List.replicate 9 []), .slotReceive 0 8 0 (List.replicate 8 []),
    .slotReceive 0 8 0 (List.replicate 9 [4]), .respReceive 0 [(8, 0)], .respReceive 0 [(0, 256)],
    .glueUp 256 0 (List.replicate 32 0) 0 0, .glueUp 0x10 0 [] 0 0, .jmcAccess (2 ^ 48) 0 0 0 0 false [] 0 [], .jmcAccess 0 0 0 0 0 false [(132, 1)] 0 [],
    .jmcAccess 0 0 0 0 0 false [] 0 [64],
    .echoReply 0 { meas 0 with port := 256 }, .trainComplete 16 0 true, .laneJudge 0 [], .scrubRead 0 0 0 3 false, .scrubRead 256 0 0 0 false,
    .scrubRead 0 0 (2 ^ 64) 0 false, .cabinetMemAccess 0 1 (some []) .uncached, .telemetrySample { sample with dies := [] }, .telemetrySample { sample with temps := List.replicate 64 128 },
    .fwFirstHeartbeat 0x5110, .resetStart 0x2084, .testComplete 0 8 false, .deepWakeTimeout 9, .overTemp 64 0 none, .supplyFault (some { page := 1, off := 0, v := 0 }),
    .mgpFrameReceive { aFrame 3 with dst := 2 ^ 48 } 0, .statusReq 0 (2 ^ 48), .stateRequest 4 0 true, .xspiRead [0] false,
    .registerWrite 0 3 0, .registerWrite (2 ^ 26) 4 0] : List Instr).all (fun c => !c.wf) = true := by decide +kernel
theorem test_wellFormed : ([.nop 131 .u {}, .clampUpdate false 131 255 3, .slotTransmit 15 8 true, .telemetrySample sample,
    .glueUp 0x11 0 (List.replicate 96 0) 0 0, .registerWrite (2 ^ 26 - 4) 4 0] : List Instr).all Instr.wf = true := by decide +kernel
/-- The table spells no command by bits. -/
theorem test_noWord : decodeTableWord 128 0 = none := rfl

/-! ### Values that the spec works out -/

/-- The words of the example of section 7.10. -/
theorem test_words :
    iwOf 0x200001000000_01FF_BF00_0000_0000_2001 = { opc := 0x20, nb := 1, aux := 511, d := 0xBF00, opid := 0x2001 } ∧
    iwOf 0x200001000000_81FF_BF04_0000_0000_2002 = { opc := 0x20, nb := 1, aux := 0x81FF, d := 0xBF04, opid := 0x2002 } ∧
    iwOf 0x2200_0105_4000_0000_BF02_0000_0000_2001 = { opc := 0x22, nb := 1, cq := 5, ce := true, d := 0xBF02, opid := 0x2001 } := by decide

/-- The check value of CRC-32 (section 15.4). -/
theorem test_crc : crc32 [0x31, 0x32, 0x33, 0x34, 0x35, 0x36, 0x37, 0x38, 0x39] = 0xCBF43926 := by decide +kernel

/-- The conversions of section 3.6, by FP32 bits. -/
theorem test_conversions :
    let md := numMode {}
    let c (x f : Nat) : Nat × Nev := convertDec md (decode 1 x) f .rne 0
    (c 0x43960000 4).1 = 0x79 ∧ (c 0x43FA0000 4) = (0x7E, nevSat) ∧ (c 0x3B800000 4) = (0, nevFlush) ∧ (c 0x3DA00000 6).1 = 0x01 ∧
    (c 0xFF800000 4) = (0xFE, nevSat) ∧ (c 0x7FC00000 6) = (0, nevCause causeNanNonan) ∧
    (convertDec md (decode 2 0x8001) 1 .rne 0).1 = 0x80000000 := by decide +kernel

/-- The round-to-odd example of section 3.6. -/
theorem test_roundToOdd :
    let md := numMode {}
    let d (f : Nat) (r : Rnd) : Nat := (drainEl md 0x1_0100_0004 {} false (-32) f r 0).1
    d 2 .rne = 0x3F81 ∧ d 1 .rne = 0x3F808000 ∧ d 1 .rto = 0x3F808001 ∧
      (convertDec md (decode 1 0x3F808000) 2 .rne 0).1 = 0x3F80 ∧ (convertDec md (decode 1 0x3F808001) 2 .rne 0).1 = 0x3F81 := by
  decide +kernel

/-- The exact-mode and window-mode chains of section 3.4. -/
theorem test_chains :
    let md := numMode {}
    let p (f g x y : Nat) : Dy := dyMul (dyOf f x 127).1 (dyOf g y 127).1
    let e (q : Dy) : Int := (termOf q (-32) false 0).t
    let w (q : Dy) : TermOut := termOf q (-20) true 0
    e (p 4 5 0x5C 0xB6) = -9 * 2 ^ 32 ∧ e (p 4 4 0x3A 0x29) = 0x5A000000 ∧ (e (p 4 5 0x01 0x3C) = 0 ∧ (dyOf 4 0x01 127).2 = true) ∧
      (drainEl md (-9 * 2 ^ 32 + 0x5A000000) {} false (-32) 2 .rne 0).1 = 0xC10A ∧
      (w (p 2 2 0x3FC0 0x3555)).t = 1 ∧ (w (p 2 2 0x3FC0 0xB555)).t = -2 ∧
      ((w (p 2 2 0x3F80 0x3400)).t = 0 ∧ (w (p 2 2 0x3F80 0x3400)).st.uf = true) ∧
      ((w (p 2 2 0x5580 0x3F80)).t = 0 ∧ (w (p 2 2 0x5580 0x3F80)).st.ovp = true) ∧
      (drainEl md (-1) {} false (-20) 1 .rne 0).1 = 0xB5800000 ∧
      drainEl md (-1) { ovp := true } false (-20) 2 .rne 0 = (0x7F7F, (nevCause causeWinOvf).join nevSat) := by decide +kernel

/-- The gradient of section 3.5. -/
theorem test_fx :
    (toFx 32 3 (decode 1 0x40400000)).1 = 24576 ∧ toFx 32 3 (decode 1 0xB8800000) = (-1, nevUfl) ∧
      (convertDec (numMode {}) (decFx 32 3 24575) 2 .rne 0).1 = 0x4040 := by decide +kernel

/-- The echo of section 10.7: 24.9 ns stays, an excursion, and 25.0 ns. -/
theorem test_echo :
    let s := upState 5 [(Rg.SPL_ECHO_ADV 5, 0x800000F9), (Rg.SPL_ECHO_ASYM 5, 4)] { echoAt := some 0 }
    let adv (trx : Nat) : Option (Nat × Nat) := match exec (.echoReply 5 { meas trx with h := 123 }) s with
      | .next t => some (bits (rg t (Rg.SPL_ECHO_ADV 5)) 12 0, bits (rg t (Rg.SPL_ECHO_STAT 5)) 2 0)
      | _ => none
    adv 617 = some (249, 0) ∧ adv 623 = some (249, 1) ∧ adv 619 = some (250, 0) := by decide +kernel

/-- The stack, channel and windows of section 9.9: a read begun at T + 218 waits until T + 480. -/
theorem test_windows : let a := 0x1234567A00
    jmcOf a = 2 ∧ chanOf {} a = 77 ∧ windowWait (260 * (77 % 15)) (80001024000 + 218) 4 = 262 ∧
      windowWait (260 * (77 % 15)) (80001024000 + 200) 4 = 0 := by decide +kernel

/-- The pages, record and entry of sections 11.4, 15.5 and 18.2. -/
theorem test_registers :
    (let s : State := { chip := .run }
     view s (Rg.PAGE_ID (Pg.TRAY 77)) = 0x0404D001 ∧ view s (Rg.FENCE (Pg.TRAY 77)) = 0x204D ∧
       view s (Rg.HDR_CHECK (Pg.TRAY 77)) = 0xA1A175A4 ∧ view s (Rg.PAGE_CAPS (Pg.TRAY 77)) = 0x34) ∧
    leNat ((evRecord { sg := 0, page := Pg.PLUMB, code := 0x500, w4 := 8, w5 := 0, stepN := 0, epoch := 0 } 0).take 4) = 0x24005004 ∧
    (entKind 0x41A10803, entFlow 0x41A10803, bits (0x41A10803 : Word) 13 0) = (1, 417, 2051) := by decide +kernel

end Sys2Proof.Tests
end

