-- ==== Sys2Proof/Proofs/RegisterPairs.lean ====
section
/-! Pairs of registers (R8): which offsets their low words have, and what a 32-bit read answers and leaves latched. -/

open Sys2Proof Sys2Proof.Machine

namespace Sys2Proof.RegisterPairs

variable {a : Nat} {s : State}

/-! ### Where pairs and rows lie -/

/-- The low word of a pair lies past the page header (R447), and in the lower half of its page. -/
theorem pairOffs_bounds {cls off : Nat} (h : off ∈ pairOffs cls) : 0x40 ≤ off ∧ off < 0x800 := by
  have hall : ∀ o ∈ pairOffs cls, 0x40 ≤ o ∧ o < 0x800 := by
    unfold pairOffs
    split <;> decide
  exact hall off h

theorem regOff_mem_pairOffs (h : pairLow a = true) : regOff a ∈ pairOffs (regCls a) := by
  simpa [pairLow] using h

/-- A register of the table lies at a multiple of 4. -/
theorem rowAt_isSome_aligned (h : (rowAt a).isSome = true) : a % 4 = 0 := by
  have hoff : regOff a % 4 = 0 := by
    by_contra hne
    simp [rowAt, hne] at h
  unfold regOff at hoff
  omega

/-- The high word of a pair is in the page of its low word, so in the management space. -/
theorem pairLow_high_lt (ha : a < 2 ^ 26) (hp : pairLow a = true) : a + 4 < 2 ^ 26 := by
  have hb := (pairOffs_bounds (regOff_mem_pairOffs hp)).2
  unfold regOff at hb
  omega

/-! ### What a read answers, and what it latches -/

/-- No low word of a pair has a part that the model draws: it reads as it shows. -/
theorem timedRead_of_pairLow (hp : pairLow a = true) : timedRead a s = (view s a, s) := by
  have hmem := regOff_mem_pairOffs hp
  have hplane : ¬ (regCls a = 2 ∧ regOff a = 0x048 ∧
      (allStreams.any fun t => !((bench s (regInst a)).str t).blocks.isEmpty) = true) := by
    rintro ⟨hcls, hoff, -⟩
    rw [hcls, hoff] at hmem
    exact absurd hmem (by decide)
  have hmgp : a ≠ Rg.MGP_STAT := by
    rintro rfl
    exact absurd hp (by decide)
  simp only [timedRead, if_neg hplane, if_neg hmgp]

@[simp] theorem evcSettle_latch (page : Nat) (cleared : Bool) : (evcSettle page cleared s).latch = s.latch := by
  unfold evcSettle
  split
  · split <;> rfl
  · rfl

/-- A read of a low word answers what it shows, where nothing stands latched for it, and latches what its high word shows then. -/
theorem readReg_of_pairLow (hp : pairLow a = true) (hr : (rowAt a).isSome = true) (hl : spFind a s.latch = none) :
    (readReg a s).1 = view s a ∧ (readReg a s).2.latch = spIns (a + 4) (view s (a + 4)) s.latch := by
  obtain ⟨r, hr⟩ := Option.isSome_iff_exists.mp hr
  simp only [readReg, hr, timedRead_of_pairLow hp, hp, hl, if_true, Option.getD_none, true_and]
  split <;> split <;> simp

/-- A read of a register that is latched answers the latched value, whatever the rest of the state. -/
theorem readReg_of_latched {v : Word} (hr : (rowAt a).isSome = true) (hl : spFind a s.latch = some v) : (readReg a s).1 = v := by
  obtain ⟨r, hr⟩ := Option.isSome_iff_exists.mp hr
  simp [readReg, hr, hl]

/-- A 32-bit read of a register in the management space is a read of that register. -/
theorem exec_lowWordLatch_of_row (hm : manageable s = true) (ha : a < 2 ^ 26) (hr : (rowAt a).isSome = true) :
    exec (.lowWordLatch a 4) s = .next { (readReg a s).2 with rdata := (readReg a s).1, cabFault := false } := by
  show (.next (cabRead a 4 s) : Out) = _
  simpa [cabRead, widthBad, hm, rowAt_isSome_aligned hr] using ha

end Sys2Proof.RegisterPairs

open Sys2Proof.RegisterPairs in
/-- Settles O57: the read of the low word latches what the high word shows, and a read of the high word answers what is latched, in any
state whose latches are those. -/
theorem pairsAreReadAtomically : Obligations.PairsAreReadAtomically := by
  intro a s ha hm hp hlow hhigh hl
  obtain ⟨hval, hlatch⟩ := readReg_of_pairLow hp hlow hl
  refine ⟨_, exec_lowWordLatch_of_row hm ha hlow, hval, fun u hmu hu => ?_⟩
  have hfind : spFind (a + 4) u.latch = some (view s (a + 4)) := by
    rw [hu, hlatch, spFind_spIns, if_pos rfl]
  exact ⟨_, exec_lowWordLatch_of_row hmu (pairLow_high_lt ha hp) hhigh, readReg_of_latched hhigh hfind⟩
end

