-- ==== Sys2Proof/Proofs/WitnessConfiguration.lean ====
section
/-! Refused register writes (R377), and the witness configuration, which no write changes while a step is live (R42). -/

open Sys2Proof Sys2Proof.Machine

namespace Sys2Proof.WitnessConfiguration

variable {s : State}

/-! ### What a refusal changes -/

/-- The event of a refusal, of severity 2 and without a HEALTH bit, writes no register of the page header (R376, R453). -/
theorem raiseEv_refusal_regs (p w4 w5 : Nat) (s : State) : (raiseEv p 0x901 w4 w5 s).regs = s.regs := by
  have hlatch : latchErr p 0x901 w4 s = s := if_pos (by decide)
  have hhealth : evHealth 0x901 = 0 := by decide
  simp only [raiseEv, hlatch, hhealth, if_true]
  split <;> rfl

/-- A refusal writes REFUSED of its page: MORE where a record stands, else the record of its reason and offset. -/
theorem rg_refuse_eq (p off r v : Nat) (s : State) (x : Nat) :
    rg (refuse p off r v s) x =
      if x = Rg.REFUSED p then
        if bit (rg s (Rg.REFUSED p)) 31 then rg s (Rg.REFUSED p) ||| 0x40000000 else word (0x80000000 + r * 0x10000 + off)
      else rg s x := by
  unfold refuse
  rw [rg_congr (raiseEv_refusal_regs ..)]
  split <;> exact rg_wr ..

theorem regsKept_refuse (p off r v : Nat) (s : State) : RegsKept [Rg.REFUSED p] s (refuse p off r v s) := by
  intro x hx
  rw [rg_refuse_eq, if_neg (by simpa using hx)]

/-- A refusal changes no byte of memory. -/
theorem memKept_refuse {p : Nat} (off r v : Nat) (s : State) (hp : p % 0x1000 = 0) : MemKept s (refuse p off r v s) := by
  have hg : ¬ guardReg (Rg.REFUSED p) := not_guardReg_low hp (by decide)
  unfold refuse
  refine MemKept.trans ?_ (memKept_raiseEv _ _ _ _ hp)
  split <;> exact memKept_wr s _ hg

/-! ### The reason of a refusal -/

/-- A bound of every listed code bounds the lowest broken one. -/
theorem le_of_lowest {c d : Nat} {l : List (Bool × Nat)} (hmin : ∀ e ∈ l, c ≤ e.2) (hd : lowest l = some d) : c ≤ d := by
  induction l generalizing d with
  | nil => cases hd
  | cons e t ih =>
    obtain ⟨broken, k⟩ := e
    obtain ⟨hk, htail⟩ := List.forall_mem_cons.mp hmin
    cases broken with
    | false => exact ih htail hd
    | true =>
      cases ht : lowest t with
      | none =>
        obtain rfl : k = d := by simpa [lowest, ht] using hd
        exact hk
      | some m =>
        obtain rfl : min k m = d := by simpa [lowest, ht] using hd
        exact le_min hk (ih htail ht)

/-- A broken rule whose code no listed rule goes below gives the code. -/
theorem lowest_eq_of_mem {c : Nat} {l : List (Bool × Nat)} (hmem : (true, c) ∈ l) (hmin : ∀ e ∈ l, c ≤ e.2) :
    lowest l = some c := by
  induction l with
  | nil => cases hmem
  | cons e t ih =>
    obtain ⟨broken, k⟩ := e
    obtain ⟨hk, htail⟩ := List.forall_mem_cons.mp hmin
    cases broken with
    | false => exact ih (by simpa using hmem) htail
    | true =>
      rcases List.mem_cons.mp hmem with heq | hmem
      · cases heq
        cases hd : lowest t with
        | none => simp [lowest, hd]
        | some d => simp [lowest, hd, le_of_lowest htail hd]
      · simpa [lowest, ih hmem htail] using hk

/-! ### How a write reaches its register -/

/-- A write that acts on an open page is taken (R348, R355). -/
theorem pageCmd_of_pageOpen {page : Nat} (off : Nat) (v : Word) (f : State → State) (hopen : PageOpen page s) :
    pageCmd page off v f s = f s := by
  obtain ⟨hmanage, hfence, hplumb⟩ := hopen
  simp [pageCmd, hmanage, hfence, hplumb]

/-- An access to an open page: one of a bad width is refused, any other is a write of the register (R7). -/
theorem exec_registerWrite_of_pageOpen {a width : Nat} {v : Word} (ha : a < 2 ^ 26) (hthere : pageThere a = true)
    (hopen : PageOpen (regPage a) s) :
    exec (.registerWrite a width v) s = .next
      (if widthBad a width then refuse (regPage a) (regOff a) rsWidth v.toNat { s with cabFault := false }
       else regWrite a v { s with cabFault := false }) := by
  have hmanage : manageable s = true := hopen.1
  show (.next (registerWrite a width v s) : Out) = _
  simp only [registerWrite, hmanage, hthere, not_le.mpr ha, Bool.not_true, Bool.false_eq_true, if_false]
  rw [pageCmd_of_pageOpen (s := { s with cabFault := false }) _ _ _ hopen]

/-- A write that a rule of its register forbids, and that does not act, is refused for the lowest reason. -/
theorem regWrite_of_bad {a k : Nat} {r : RegRow} {v : Word} (hrow : rowAt a = some r) (hact : actWrite a r v s = none)
    (hbad : lowest (writeBad a r v s) = some k) : regWrite a v s = refuse (regPage a) (regOff a) k v.toNat s := by
  simp only [regWrite, hrow, hact, plainWrite, hbad]

/-! ### The registers of the witness configuration -/

/-- SEAL_WIT_CTRL, SEAL_WIT_OPMATCH, SEAL_WIT_OPMASK and the pair SEAL_WRING_BASE (R42). -/
abbrev witConfigRegs : List Nat :=
  [Rg.SEAL_WIT_CTRL, Rg.SEAL_WIT_OPMATCH, Rg.SEAL_WIT_OPMASK, Rg.SEAL_WRING_BASE_LO, Rg.SEAL_WRING_BASE_HI]

/-- Their offsets in the SEALU page. -/
abbrev witConfigOffs : List Nat := [0x080, 0x084, 0x088, 0x090, 0x094]

theorem witConfig_place {a : Nat} (ha : a ∈ witConfigRegs) :
    a < 2 ^ 26 ∧ pageThere a = true ∧ regPage a = Pg.SEALU ∧ regCls a = 0x14 ∧ regOff a ∈ witConfigOffs ∧
      (rowAt a).isSome = true := by
  revert a
  decide

/-- A live step forbids a write of the witness configuration (R42). -/
theorem stepLive_mem_sealuBad {off : Nat} (v : Word) (hoff : off ∈ witConfigOffs) (hlive : stepLive s = true) :
    (true, rsState) ∈ sealuBad off v s := by
  simp only [List.mem_cons, List.not_mem_nil, or_false] at hoff
  rcases hoff with rfl | rfl | rfl | rfl | rfl <;> simp [sealuBad, noState, hlive]

/-- A write of the SEALU page is refused for no reason lower than STATE. -/
theorem rsState_le_sealuBad (off : Nat) (v : Word) (s : State) : ∀ e ∈ sealuBad off v s, rsState ≤ e.2 := by
  unfold sealuBad
  split <;> simp [noState, noValue, rsState, rsValue]

theorem lowest_writeBad_witConfig {a : Nat} (r : RegRow) (v : Word) (ha : a ∈ witConfigRegs) (hlive : stepLive s = true) :
    lowest (writeBad a r v s) = some rsState := by
  obtain ⟨-, -, -, hcls, hoff, -⟩ := witConfig_place ha
  have hpast : ∀ o ∈ witConfigOffs, ¬ o < 0x40 := by decide
  obtain ⟨p, hbad⟩ : ∃ p, writeBad a r v s = (p, rsLocked) :: sealuBad (regOff a) v s := by
    simp [writeBad, hpast _ hoff, hcls]
  have hmin : ∀ e ∈ (p, rsLocked) :: sealuBad (regOff a) v s, rsState ≤ e.2 :=
    List.forall_mem_cons.mpr ⟨(by decide : rsState ≤ rsLocked), rsState_le_sealuBad _ v s⟩
  rw [hbad, lowest_eq_of_mem (List.mem_cons_of_mem _ (stepLive_mem_sealuBad v hoff hlive)) hmin]

theorem actWrite_witConfig {a : Nat} (r : RegRow) (v : Word) (s : State) (ha : a ∈ witConfigRegs) : actWrite a r v s = none := by
  simp only [List.mem_cons, List.not_mem_nil, or_false] at ha
  rcases ha with rfl | rfl | rfl | rfl | rfl <;> rfl

/-- While a step is live, a write of the witness configuration is a refusal, for its width or else for the state of the step. -/
theorem exec_registerWrite_witConfig {a : Nat} (width : Nat) (v : Word) (ha : a ∈ witConfigRegs) (hlive : stepLive s = true)
    (hopen : PageOpen Pg.SEALU s) :
    exec (.registerWrite a width v) s = .next
      (refuse Pg.SEALU (regOff a) (if widthBad a width then rsWidth else rsState) v.toNat { s with cabFault := false }) := by
  obtain ⟨hlt, hthere, hpage, -, -, hrow⟩ := witConfig_place ha
  obtain ⟨r, hrow⟩ := Option.isSome_iff_exists.mp hrow
  rw [exec_registerWrite_of_pageOpen hlt hthere (hpage ▸ hopen),
    regWrite_of_bad hrow (actWrite_witConfig r v _ ha) (lowest_writeBad_witConfig (s := { s with cabFault := false }) r v ha hlive),
    hpage]
  split <;> rfl

end Sys2Proof.WitnessConfiguration

open Sys2Proof.WitnessConfiguration in
/-- Settles O59: whatever its width, the write is a refusal, which writes nothing but REFUSED of the SEALU page and queues its event. -/
theorem witnessConfigurationIsFixedInAStep : Obligations.WitnessConfigurationIsFixedInAStep := by
  intro a width v s hlive hopen ha
  have hkept : MemKept s { s with cabFault := false } := memKept_of_eq rfl rfl rfl
  refine ⟨_, exec_registerWrite_witConfig width v ha hlive hopen, refuse_shape .., ?_, ?_, fun hfree => ?_⟩
  · exact regsKept_refuse _ _ _ _ { s with cabFault := false }
  · exact hkept.trans (memKept_refuse _ _ _ _ (by decide))
  · rw [rg_refuse_eq, if_pos rfl]
    exact if_neg (Bool.eq_false_iff.mp hfree)
end
